-- ==== Sys2Proof/Word.lean ====
section
/-! DEFINITION. The byte and the saturating counter step: the plainest values of every layout and counter. -/

namespace Sys2Proof

/-- One byte of a marker, a message or a host window (Section 11). -/
abbrev Byte := BitVec 8

/-- The largest value of a 32-bit counter (R19, R43, R141, R164). -/
abbrev counterMax : Nat := 4294967295

/-- One increment of a 32-bit counter: "A counter at 4294967295 stays there" (R19, R43, R141, R164). -/
def satSucc (n : Nat) : Nat := min (n + 1) counterMax

theorem satSucc_le (n : Nat) : satSucc n ≤ counterMax := Nat.min_le_right _ _

theorem satSucc_of_lt {n : Nat} (h : n < counterMax) : satSucc n = n + 1 := by
  unfold satSucc; omega

@[simp] theorem satSucc_max : satSucc counterMax = counterMax := rfl

end Sys2Proof
end

