-- ==== Sys2Proof/Config.lean ====
section
/-! DEFINITION. The sizes and limits the spec fixes for the part. The spec leaves no value of any command open,
so there is no free value here (log 22). -/

namespace Sys2Proof.Config

/-- R39: "The Cell Store holds 1536 cells". -/
abbrev cellStoreSize : Nat := 1536

/-- Section 2-4: a cell is 32 bytes. -/
abbrev cellBytes : Nat := 32

/-- Table 1-A: the largest cell count of a geometry; R36: a frame of more cells is bad. -/
abbrev maxFrameCells : Nat := 96

/-- R129: the egress queue holds 0 to 40 descriptors. -/
abbrev queueCapacity : Nat := 40

/-- R129, R133: the credit is a count of cells from 0 to 4095. -/
abbrev maxCredit : Nat := 4095

/-- R155: "The window holds at most 4 entries". -/
abbrev windowCapacity : Nat := 4

/-- R148, R157: the transmission count at which an expiry is exhaustion. -/
abbrev maxTransmissions : Nat := 4

/-- R68: an age stays at 1023 once reached. -/
abbrev maxAge : Nat := 1023

/-- R3: the run and consecutive bad do not pass 15. -/
abbrev maxRun : Nat := 15

/-- R3: suspension faults stop at 63. -/
abbrev maxFaults : Nat := 63

/-- R124: the cursor at which a sweep has run through. -/
abbrev sweepEnd : Nat := 48

end Sys2Proof.Config
end

