-- ==== Sys2Proof/Syntax.lean ====
section
/-! DEFINITION. The commands of the part: one constructor of `Instr` for each row of spec/opcode_table.json, with the
operands the spec's text gives the row (the table lists none). A command is an event that the part takes whole. -/

namespace Sys2Proof

/-- A feeder link, F0 to F7. -/
abbrev LinkNo := Fin 8

/-- A stream number, S0 to S15. -/
abbrev StreamNo := Fin 16

/-- A policy class, C0 to C3. -/
abbrev ClassNo := Fin 4

/-- A binding number, 0 to 47. -/
abbrev BindingNo := Fin 48

/-- A trunk tag T1 to T31, numbered from 0: `t` stands for T(t+1). T0 carries notices and has no Tag Table entry (R67). -/
abbrev Tag := Fin 31

/-- The number a tag has on the trunk and in the host's blocks, 1 to 31. -/
def Tag.number (t : Tag) : Nat := t.val + 1

/-- The three reasons of a NAK (Section 8-5, Table 11-C). -/
inductive NakReason where
  | noRoom
  | unknownTag
  | malformed
  deriving DecidableEq, Repr

/-- The reason byte of a NAK (Table 11-C). -/
def NakReason.code : NakReason → Byte
  | .noRoom => 0x01#8
  | .unknownTag => 0x02#8
  | .malformed => 0x03#8

/-- The 49 commands. The host commands of Section 10-4 (from `status` to `restart`) are COMMAND EVENTS (R182): their
operands stand in the command block, which is the command in hand, so these constructors carry none (log 6). -/
inductive Instr where
  /-- OPEN_MARKER (R33, Table 11-A): the marker's format code, stream number and frame number. -/
  | openMarker (link : LinkNo) (format : Fin 16) (stream : StreamNo) (frameNumber : Byte)
  /-- CELL_MARKER (R34, R195): every byte after the type byte B2h, in the order received. -/
  | cellMarker (link : LinkNo) (payload : List Byte)
  /-- FRAME_CLOSE (R35 to R37): the declared cell count and the CRC of the CLOSE marker. -/
  | frameClose (link : LinkNo) (declared : Byte) (crc : BitVec 16)
  /-- UNRECOGNISED_MARKER (R195): the marker's bytes. -/
  | unrecognisedMarker (link : LinkNo) (bytes : List Byte)
  /-- LINE_LOCK (R29). -/
  | lineLock (link : LinkNo)
  /-- LOCK_LOSS (R29). -/
  | lockLoss (link : LinkNo)
  /-- LEASE_EXPIRY (R15): the record whose lease ran out. -/
  | leaseExpiry (binding : BindingNo)
  /-- HOLD_OFF_EXPIRY (R70). -/
  | holdOffExpiry
  /-- SEND_COMPLETION (R137): the last byte of the DATA frame in transmission has left. -/
  | sendCompletion
  /-- NOTICE_END (R136): the last byte of the notice or HELLO in transmission has left. -/
  | noticeEnd
  /-- LINE_UP (R132): the trunk line gains lock. -/
  | lineUp
  /-- LINE_DOWN (R132): the trunk line loses lock. -/
  | lineDown
  /-- CREDIT (R133): the increment in cells. -/
  | credit (increment : BitVec 16)
  /-- DISCARDED_RETURN_MESSAGE (R197): the message's bytes. -/
  | discardedReturnMessage (bytes : List Byte)
  /-- HELLO_ACK (R149, R150): the session number it carries. -/
  | helloAck (number : Byte)
  /-- ACK (R158, R159): the sequence number it carries. -/
  | ack (seq : Byte)
  /-- NAK (R158, R160, R161): the sequence number and the reason it carries. -/
  | nak (seq : Byte) (reason : NakReason)
  /-- RESYNC_REQUEST (R151). -/
  | resyncRequest
  /-- HELLO_TIMER_EXPIRY (R148). -/
  | helloTimerExpiry
  /-- NOTICE_TIMER_EXPIRY (R157): the sequence number of the window entry whose timer ran out. -/
  | noticeTimerExpiry (seq : Byte)
  /-- SWEEP_VISIT (R125). -/
  | sweepVisit
  /-- STATUS_WINDOW_READ (R179): a read transaction, with the window address of its address byte (01h for the STATUS
  window, Section 11-4) and the number of data bytes the host clocks out (log 7). -/
  | statusWindowRead (address : BitVec 7) (length : Nat)
  /-- COMMAND_WRITE (R180): the data bytes of the transaction. -/
  | commandWrite (data : List Byte)
  /-- GO (R181): a write to GO, with whatever data bytes it carries. -/
  | go (data : List Byte)
  /-- IGNORED_WRITE (R180): a write to STATUS, ATTENTION SUMMARY, RESPONSE or to no window. -/
  | ignoredWrite (address : BitVec 7) (data : List Byte)
  /-- UNKNOWN_COMMAND (R183). -/
  | unknownCommand
  /-- STATUS, code 01h (R184). -/
  | status
  /-- READ_RECORD, code 02h (R185). -/
  | readRecord
  /-- LOOKUP_KEY, code 03h (R185). -/
  | lookupKey
  /-- LOOKUP_TAG, code 04h (R185). -/
  | lookupTag
  /-- PROVISION, code 05h (R58, R186). -/
  | provision
  /-- MODIFY, code 06h (R23, R187). -/
  | modify
  /-- RETIRE, code 07h (R121, R187). -/
  | retire
  /-- RELEASE_TAG, code 08h (R81, R188). -/
  | releaseTag
  /-- NEXT_ATTENTION, code 09h (R174, R190). -/
  | nextAttention
  /-- ACK_ATTENTION, code 0Ah (R175, R190). -/
  | ackAttention
  /-- SET_CLASS, code 0Bh (R11, R188). -/
  | setClass
  /-- SET_LINK, code 0Ch (R28, R189). -/
  | setLink
  /-- READ_LINK, code 0Dh (R44, R189). -/
  | readLink
  /-- SET_TIMING, code 0Eh (R69, R188). -/
  | setTiming
  /-- SET_ATTENTION_ENABLES, code 0Fh (R171, R190). -/
  | setAttentionEnables
  /-- TRUNK_OPEN, code 10h (R146, R191). -/
  | trunkOpen
  /-- TRUNK_CLOSE, code 11h (R146, R191). -/
  | trunkClose
  /-- SWEEP, code 12h (R124, R192). -/
  | sweep
  /-- ABORT_SWEEP, code 13h (R127, R192). -/
  | abortSweep
  /-- RESTART, code 14h (R193). -/
  | restart
  /-- RESET_ASSERTION (R194). -/
  | resetAssertion
  /-- POWER_ON_RESET (R194): the release of RESET, or the end of power-up. -/
  | powerOnReset
  /-- TIMEBASE_TICK (R15, R68, R148). -/
  | timebaseTick
  deriving DecidableEq, Repr

end Sys2Proof
end

