-- ==== Sys2Proof/Machine/Formats.lean ====
section
/-! DEFINITION. Byte layouts shared by the three connections (Section 11): the CRC, parity, byte order, marker and
message recognition. -/

namespace Sys2Proof.Machine

/-- One bit into the CRC register of R34: generator x^16+x^12+x^5+1, most significant bit first. -/
def crcBit (c : BitVec 16) (b : Bool) : BitVec 16 :=
  if (c.msb != b) then (c <<< 1) ^^^ 0x1021#16 else c <<< 1

/-- One byte into the CRC register, "its most significant bit first, with no reflection" (R34). -/
def crcByte (c : BitVec 16) (x : Byte) : BitVec 16 :=
  [7, 6, 5, 4, 3, 2, 1, 0].foldl (fun c i => crcBit c (x.getLsbD i)) c

/-- Bytes into a CRC register, in the order received (R34). -/
def crcBytes (c : BitVec 16) (l : List Byte) : BitVec 16 := l.foldl crcByte c

/-- The value the CRC register starts at (R33, R34). -/
def crcStart : BitVec 16 := 0xFFFF#16

/-- The CRC-16 of R34 over a whole list of bytes. -/
def crc16 (l : List Byte) : BitVec 16 := crcBytes crcStart l

/-- A 16-bit value "sent high byte first" (Section 11). -/
def bytes16 (x : BitVec 16) : List Byte := [x.extractLsb' 8 8, x.extractLsb' 0 8]

/-- The 16-bit value of two bytes, high byte first (Section 11). -/
def word16 (hi lo : Byte) : BitVec 16 := hi ++ lo

/-- A number as one byte. -/
def byteOf (n : Nat) : Byte := BitVec.ofNat 8 n

/-- A 32-bit counter as four bytes, high byte first (Section 11). -/
def bytes32 (n : Nat) : List Byte :=
  [byteOf (n / 16777216), byteOf (n / 65536), byteOf (n / 256), byteOf n]

/-- A flag as one bit of a byte, at bit `i`. -/
def bitAt (i : Nat) (b : Bool) : Byte := if b then 1#8 <<< i else 0#8

/-- "Every item ends with a CRC-16 computed over all of its preceding bytes" (Section 11-2). -/
def withCrc (l : List Byte) : List Byte := l ++ bytes16 (crc16 l)

/-- The exclusive-OR of a list of bytes (Table 11-A, R195). -/
def xorBytes (l : List Byte) : Byte := l.foldl (· ^^^ ·) 0#8

/-- The parity verdict of a CELL from the bytes after its type byte: failing when bytes 1 to 33 do not cancel, and for
any other length (R195). -/
def cellParityFails (payload : List Byte) : Bool :=
  !(payload.length == 33 && xorBytes payload == 0#8)

/-- The 32 cell bytes of a CELL: "the missing bytes are taken into the CRC as 00h. If it has more, only bytes 1 to 32
are taken" (R195). -/
def cellData (payload : List Byte) : List Byte :=
  (List.range Config.cellBytes).map fun i => payload.getD i 0#8

/-- Whether the Feeder Receiver recognises a delivered marker (R195): an OPEN or CLOSE of 4 bytes, or B2h of any length. -/
def markerRecognised : List Byte → Bool
  | [] => false
  | b :: rest => b == 0xB2#8 || ((b == 0xB1#8 || b == 0xB3#8) && rest.length == 3)

/-- The length Table 11-C gives a return-path message type. -/
def returnLength (type : Byte) : Option Nat :=
  if type = 0x81#8 then some 4
  else if type = 0x82#8 then some 4
  else if type = 0x83#8 then some 5
  else if type = 0x84#8 then some 5
  else if type = 0x85#8 then some 3
  else none

/-- Whether a message's last two bytes are the CRC-16 of the bytes before them (R197). -/
def crcMatches (m : List Byte) : Bool :=
  decide (2 ≤ m.length) && m == withCrc (m.take (m.length - 2))

/-- The reason a NAK's reason byte names (Table 11-C). -/
def nakReason (b : Byte) : Option NakReason :=
  if b = 0x01#8 then some .noRoom
  else if b = 0x02#8 then some .unknownTag
  else if b = 0x03#8 then some .malformed
  else none

/-- The check of R197 on a delivered return-path message. -/
def returnMessagePasses (m : List Byte) : Bool :=
  match m with
  | [] => false
  | type :: _ =>
    decide (returnLength type = some m.length) && crcMatches m &&
      (type != 0x83#8 || (nakReason (m.getD 2 0#8)).isSome) &&
      (type != 0x84#8 || decide ((word16 (m.getD 1 0#8) (m.getD 2 0#8)).toNat ≤ Config.maxCredit))

/-- Window addresses of Section 11-4. -/
def windowStatus : BitVec 7 := 0x01#7
/-- ATTENTION SUMMARY window (Section 11-4). -/
def windowSummary : BitVec 7 := 0x02#7
/-- COMMAND window (Section 11-4). -/
def windowCommand : BitVec 7 := 0x03#7
/-- GO location (Section 11-4). -/
def windowGo : BitVec 7 := 0x04#7
/-- RESPONSE window (Section 11-4). -/
def windowResponse : BitVec 7 := 0x05#7

end Sys2Proof.Machine
end

