-- ==== Sys2Proof/WellFormed.lean ====
section
/-! DEFINITION. Which terms of `Instr` stand for an event the connections can deliver. -/

namespace Sys2Proof

/-- A command is well formed when its operands are ones its connection delivers under that row: an increment the check
of R197 lets pass, bytes that R195 or R197 do send to the discarding row, an address whose writes R180 ignores. Every
other row is well formed with all its operands, since their types bound them. -/
def Instr.wellFormed : Instr → Bool
  | .unrecognisedMarker _ bytes => !Machine.markerRecognised bytes
  | .credit increment => decide (increment.toNat ≤ Config.maxCredit)
  | .discardedReturnMessage bytes => !Machine.returnMessagePasses bytes
  | .ignoredWrite address _ => address != Machine.windowCommand && address != Machine.windowGo
  | .openMarker _ _ _ _ | .cellMarker _ _ | .frameClose _ _ _ | .lineLock _ | .lockLoss _ | .leaseExpiry _
  | .holdOffExpiry | .sendCompletion | .noticeEnd | .lineUp | .lineDown | .helloAck _ | .ack _ | .nak _ _
  | .resyncRequest | .helloTimerExpiry | .noticeTimerExpiry _ | .sweepVisit | .statusWindowRead _ _
  | .commandWrite _ | .go _ | .unknownCommand | .status | .readRecord | .lookupKey | .lookupTag | .provision
  | .modify | .retire | .releaseTag | .nextAttention | .ackAttention | .setClass | .setLink | .readLink
  | .setTiming | .setAttentionEnables | .trunkOpen | .trunkClose | .sweep | .abortSweep | .restart
  | .resetAssertion | .powerOnReset | .timebaseTick => true

end Sys2Proof
end

