-- ==== Sys2Proof/Decode.lean ====
section
/-! DEFINITION. How the bytes on the three connections become commands (R178 to R180, R195, R197), and the host's
`decodeTableWord`: opcode_table.json gives no row any bits, so no word spells a command. -/

namespace Sys2Proof

open Machine

/-- The command a word spells by the table's bits. No row of spec/opcode_table.json has fixed bits or fields, so none
does (log 1). -/
def decodeTableWord (_nbits _w : Nat) : Option Instr := none

/-- R195: the Feeder Receiver "sorts each delivered marker by its type byte and length before it takes it". Byte 3 of an
OPEN is not examined (log 14). -/
def decodeMarker (link : LinkNo) (bytes : List Byte) : Instr :=
  match bytes with
  | [] => .unrecognisedMarker link []
  | type :: rest =>
    if type = 0xB2#8 then .cellMarker link rest
    else match rest with
      | [b1, b2, b3] =>
        if type = 0xB1#8 then
          .openMarker link (b1.extractLsb' 4 4).toFin (b1.extractLsb' 0 4).toFin b2
        else if type = 0xB3#8 then .frameClose link b1 (word16 b2 b3)
        else .unrecognisedMarker link bytes
      | _ => .unrecognisedMarker link bytes

/-- R133, R197: the Trunk Receiver's sorting of a delivered return-path message (Table 11-C). A message that fails the
check is the discarded row. -/
def decodeReturn (m : List Byte) : Instr :=
  if returnMessagePasses m then
    match m with
    | type :: rest =>
      if type = 0x81#8 then .helloAck (rest.getD 0 0#8)
      else if type = 0x82#8 then .ack (rest.getD 0 0#8)
      else if type = 0x83#8 then
        match nakReason (rest.getD 1 0#8) with
        | some r => .nak (rest.getD 0 0#8) r
        | none => .discardedReturnMessage m
      else if type = 0x84#8 then .credit (word16 (rest.getD 0 0#8) (rest.getD 1 0#8))
      else .resyncRequest
    | [] => .discardedReturnMessage m
  else .discardedReturnMessage m

/-- R178 to R181, Section 11-4: the command of one SPI transaction, from its address byte and the whole bytes that
followed it. Bit 7 of the address byte is 1 for a read. -/
def decodeTransaction (address : Byte) (data : List Byte) : Instr :=
  let window := address.extractLsb' 0 7
  if address.msb then .statusWindowRead window data.length
  else if window = windowCommand then .commandWrite data
  else if window = windowGo then .go data
  else .ignoredWrite window data

/-- Eight bits as a byte, the first of them its bit 7 (log 25). -/
def byteOfBits (bits : List Bool) : Byte :=
  bits.foldl (fun (a : Byte) (b : Bool) => (a <<< 1) ||| (if b then 1#8 else 0#8)) 0#8

/-- The whole bytes of the bits clocked in while chip select was low. "A byte left incomplete when chip select goes high is
discarded" (R178). -/
def wholeBytes : List Bool → List Byte
  | b7 :: b6 :: b5 :: b4 :: b3 :: b2 :: b1 :: b0 :: rest => byteOfBits [b7, b6, b5, b4, b3, b2, b1, b0] :: wholeBytes rest
  | _ => []

/-- R178: the command of one transaction, from the bits sampled between chip select low and chip select high. A transaction
whose address byte is incomplete addresses no window, and is no command. -/
def decodeSpi (bits : List Bool) : Option Instr :=
  match wholeBytes bits with
  | [] => none
  | address :: data => some (decodeTransaction address data)

end Sys2Proof
end

