-- ==== Sys2Proof/Machine/State.lean ====
section
/-! DEFINITION. Everything the spec gives the part, as plain data, block by block (Table 0-A), and its power-on values. -/

namespace Sys2Proof.Machine

/-! ### Binding records (Section 1) -/

/-- Table 1-D. -/
inductive RecordState where
  | free | candidate | tagWait | announcing | live | suspended | silent | retiring | retired
  deriving DecidableEq, Repr

/-- Table 1-A, origin. -/
inductive Origin where
  | learnt | provisioned
  deriving DecidableEq, Repr

/-- Table 1-A, notice phase. -/
inductive NoticePhase where
  | none | drain | owed | outstanding | awaitSession
  deriving DecidableEq, Repr

/-- Table 1-A, retire cause. -/
inductive RetireCause where
  | host | lease | fault | geometry | refused | linkOff | sweep
  deriving DecidableEq, Repr

/-- Section 0-2: a key is the pairing of a feeder link and a stream number. -/
structure Key where
  link : LinkNo
  stream : StreamNo
  deriving DecidableEq, Repr

/-- Section 0-2: a geometry is a format code with a cell count. -/
structure Geometry where
  format : Fin 16
  cells : Nat
  deriving DecidableEq, Repr

/-- One record of the Binding Table, with every field of Table 1-A (R1). -/
structure BindingRecord where
  state : RecordState
  origin : Origin
  pinned : Bool
  cls : ClassNo
  key : Key
  tag : Option Tag
  geometry : Option Geometry
  trial : Option Geometry
  lastFrame : Option Byte
  run : Nat
  consecutiveBad : Nat
  /-- suspension faults -/
  faults : Nat
  /-- lease remaining, in ms; `some 0` while an expiry stands to be taken (R15, log 2) -/
  lease : Option Nat
  inFlight : Nat
  phase : NoticePhase
  bindPending : Bool
  announced : Bool
  cause : Option RetireCause
  strandedNote : Bool
  forwarded : Nat
  withheld : Nat
  bad : Nat
  gaps : Nat
  /-- pending attention reasons, as the per-record reason mask of Table 11-E -/
  reasons : BitVec 5
  deriving DecidableEq, Repr

/-- The free values of a record (R6, Table 1-C). -/
def BindingRecord.free : BindingRecord where
  state := .free
  origin := .learnt
  pinned := false
  cls := 0
  key := ⟨0, 0⟩
  tag := none
  geometry := none
  trial := none
  lastFrame := none
  run := 0
  consecutiveBad := 0
  faults := 0
  lease := none
  inFlight := 0
  phase := .none
  bindPending := false
  announced := false
  cause := none
  strandedNote := false
  forwarded := 0
  withheld := 0
  bad := 0
  gaps := 0
  reasons := 0#5

/-- Trunk priority (Section 0-2). -/
inductive Priority where
  | normal | expedited
  deriving DecidableEq, Repr

/-- One policy class, with the seven parameters of Table 1-F (R11). -/
structure PolicyClass where
  admissionCount : Nat
  faultThreshold : Nat
  retireThreshold : Nat
  leaseLength : Nat
  priority : Priority
  reshapeAllowed : Bool
  autoClear : Bool
  deriving DecidableEq, Repr

/-- The defaults of Table 1-F (R11). -/
def PolicyClass.default : PolicyClass where
  admissionCount := 3
  faultThreshold := 4
  retireThreshold := 16
  leaseLength := 250
  priority := .normal
  reshapeAllowed := false
  autoClear := false

/-! ### Feeder links (Section 2) -/

/-- Table 2-A. -/
inductive LinkState where
  | disabled | seeking | up
  deriving DecidableEq, Repr

/-- Table 2-B, storage. -/
inductive Storage where
  | stored | tracked
  deriving DecidableEq, Repr

/-- The open frame context (R32, Table 2-B). `cells` holds the bytes of the Cell Store cells the frame holds, in order,
so that cells held is its length (log 9). -/
structure OpenFrame where
  stream : StreamNo
  format : Fin 16
  frameNumber : Byte
  storage : Storage
  cellsReceived : Nat
  cells : List (List Byte)
  parityFailed : Bool
  crc : BitVec 16
  overrun : Bool
  deriving DecidableEq, Repr

/-- "cells held" of Table 2-B. -/
def OpenFrame.cellsHeld (f : OpenFrame) : Nat := f.cells.length

/-- One Feeder Receiver (R27) with its six counters (R43). -/
structure FeederLink where
  state : LinkState
  frame : Option OpenFrame
  defaultClass : ClassNo
  framesSeen : Nat
  badFrames : Nat
  overruns : Nat
  refused : Nat
  discarded : Nat
  lockLosses : Nat
  deriving DecidableEq, Repr

/-- A link at power-on reset (R45). -/
def FeederLink.initial : FeederLink where
  state := .disabled
  frame := none
  defaultClass := 0
  framesSeen := 0
  badFrames := 0
  overruns := 0
  refused := 0
  discarded := 0
  lockLosses := 0

/-! ### Tags (Section 4) -/

/-- A Tag Table entry (R67, Table 4-A). The place of a FREE tag in the free list is the list's. -/
inductive TagEntry where
  | free (age : Nat)
  | held (holder : BindingNo)
  | stranded (lastSeq : Byte)
  deriving DecidableEq, Repr

/-- What the Tag Manager holds (Section 4, R67 to R71, R80). -/
structure TagManager where
  table : Vector TagEntry 31
  /-- head first (R68) -/
  freeList : List Tag
  /-- head first (R71) -/
  waitQueue : List BindingNo
  holdOff : Nat
  strandedThreshold : Nat
  strandedCount : Nat
  /-- The model's own: a tick has made the head of the free list ready while records wait, and the hold-off expiry that
  this tick is (R70) has not been taken yet (log 3). -/
  holdOffDue : Bool
  deriving DecidableEq, Repr

/-- The Tag Manager at power-on reset (R84). -/
def TagManager.initial : TagManager where
  table := Vector.replicate 31 (.free Config.maxAge)
  freeList := List.finRange 31
  waitQueue := []
  holdOff := 100
  strandedThreshold := 3
  strandedCount := 0
  holdOffDue := false

/-! ### Trunk (Section 7) -/

/-- An egress descriptor (R129, Table 7-A). Its cell count is the number of cells it holds (log 9). -/
structure Descriptor where
  /-- none only after RESTART (R144) -/
  binding : Option BindingNo
  tag : Tag
  cells : List (List Byte)
  frameNumber : Byte
  priority : Priority
  inTransmission : Bool
  deriving DecidableEq, Repr

/-- "cell count" of Table 7-A. -/
def Descriptor.cellCount (d : Descriptor) : Nat := d.cells.length

/-- The item in transmission (R129): the descriptor marked in transmission, the BIND or UNBIND of a sequence number, or
the HELLO. -/
inductive TxItem where
  | data
  | notice (seq : Byte)
  | hello
  deriving DecidableEq, Repr

/-- The output state (R129). While BUSY, `bytes` is the item as the Transmitter composed it at its begin (R196). -/
inductive Output where
  | idle
  | busy (item : TxItem) (bytes : List Byte)
  deriving DecidableEq, Repr

/-- What the Transmitter holds (R129). -/
structure Transmitter where
  /-- oldest first -/
  queue : List Descriptor
  output : Output
  credit : Nat
  deriving DecidableEq, Repr

/-- The Transmitter at power-on reset (R129). -/
def Transmitter.initial : Transmitter where
  queue := []
  output := .idle
  credit := 0

/-- The trunk line state (R132). -/
inductive LineState where
  | down | up
  deriving DecidableEq, Repr

/-- The four trunk counters (R141, R164). -/
structure TrunkCounters where
  framesSent : Nat
  framesPurged : Nat
  retransmitted : Nat
  strayReplies : Nat
  deriving DecidableEq, Repr

/-- The trunk counters at power-on reset and after RESTART (R141, R164). -/
def TrunkCounters.zero : TrunkCounters := ⟨0, 0, 0, 0⟩

/-! ### The notice protocol (Section 8) -/

/-- Table 8-A. -/
inductive Session where
  | closed | opening | up | resync | failed
  deriving DecidableEq, Repr

/-- A HELLO in the hello slot (R145, R148). `timer` counts the ticks left; `some 0` while its expiry stands to be taken
(log 4). -/
structure Hello where
  count : Nat
  timer : Option Nat
  due : Bool
  deriving DecidableEq, Repr

/-- The kind of a window entry (R155). -/
inductive NoticeKind where
  | bind | unbind
  deriving DecidableEq, Repr

/-- A window entry (R155). `timer` as in `Hello`. -/
structure WindowEntry where
  seq : Byte
  kind : NoticeKind
  binding : BindingNo
  tag : Tag
  count : Nat
  timer : Option Nat
  deriving DecidableEq, Repr

/-- What the Notice Unit holds (R145), less the counters of R164. -/
structure NoticeUnit where
  session : Session
  number : Byte
  hello : Option Hello
  /-- oldest first (R154) -/
  owed : List BindingNo
  window : List WindowEntry
  /-- the sequence numbers of the entries due for retransmission, the one due longest first (R155, R157) -/
  retransmit : List Byte
  sequence : Byte
  timeout : Nat
  deriving DecidableEq, Repr

/-- The Notice Unit at power-on reset (R145). -/
def NoticeUnit.initial : NoticeUnit where
  session := .closed
  number := 0#8
  hello := none
  owed := []
  window := []
  retransmit := []
  sequence := 0#8
  timeout := 20

/-! ### Sweeps (Section 6-6) -/

/-- Sweep actions (R124). -/
inductive SweepAction where
  | retire | clearCounters | freeReports
  deriving DecidableEq, Repr

/-- A filter and an action (R124). `none` for link or class is "any"; bit n of `states` stands for record state code n. -/
structure SweepJob where
  link : Option LinkNo
  cls : Option ClassNo
  states : BitVec 16
  pinnedIncluded : Bool
  action : SweepAction
  deriving DecidableEq, Repr

/-- What the Sweep Engine holds (R124). -/
structure SweepEngine where
  running : Bool
  job : Option SweepJob
  cursor : Nat
  matched : Nat
  acted : Nat
  aborted : Bool
  deriving DecidableEq, Repr

/-- The Sweep Engine at power-on reset and after RESTART (R124, R128). -/
def SweepEngine.initial : SweepEngine where
  running := false
  job := none
  cursor := 0
  matched := 0
  acted := 0
  aborted := false

/-! ### Attention (Section 9) -/

/-- Per-record reasons (R167). -/
inductive RecordReason where
  | live | suspended | silent | reshaped | retired
  deriving DecidableEq, Repr

/-- Part-level reasons (R167). -/
inductive PartReason where
  | tableFull | overrun | tagStranded | session | sweepDone | link
  deriving DecidableEq, Repr

/-- What the Attention Unit holds (R167), less the per-record sets, which are the records' fields. -/
structure AttentionUnit where
  /-- pending part-level reasons, as the mask of Table 11-D -/
  part : BitVec 6
  recordEnables : BitVec 5
  partEnables : BitVec 6
  /-- the NEXT cursor -/
  cursor : BindingNo
  deriving DecidableEq, Repr

/-- The Attention Unit at power-on reset (R167). -/
def AttentionUnit.initial : AttentionUnit where
  part := 0#6
  recordEnables := 0x1F#5
  partEnables := 0x3F#6
  cursor := 0

/-! ### Host port (Section 10) -/

/-- Mailbox states (R181). -/
inductive Mailbox where
  | idle | busy | done
  deriving DecidableEq, Repr

/-- What the Host Port holds (R181), and the bytes of the last read transaction on MISO (R179, log 7). -/
structure HostPort where
  mailbox : Mailbox
  collision : Bool
  /-- the command block; while BUSY it is the command in hand (R181) -/
  command : Vector Byte 16
  response : Vector Byte 32
  miso : Option (List Byte)
  deriving DecidableEq, Repr

/-- The Host Port after power-on reset (R194). -/
def HostPort.initial : HostPort where
  mailbox := .idle
  collision := false
  command := Vector.replicate 16 0#8
  response := Vector.replicate 32 0#8
  miso := none

/-! ### The whole part -/

/-- The state of the part, and the queue of the events that wait to be taken. -/
structure State where
  records : Vector BindingRecord 48
  classes : Vector PolicyClass 4
  feeders : Vector FeederLink 8
  freeCells : Nat
  tags : TagManager
  trunk : Transmitter
  line : LineState
  counters : TrunkCounters
  notice : NoticeUnit
  sweep : SweepEngine
  attention : AttentionUnit
  host : HostPort
  resetAsserted : Bool
  pending : List Instr
  deriving DecidableEq, Repr

/-- The part right after power-on reset: R25, R45, R84, R108, R124, R129, R132, R141, R145, R164, R167, R194. -/
def State.reset : State where
  records := Vector.replicate 48 BindingRecord.free
  classes := Vector.replicate 4 PolicyClass.default
  feeders := Vector.replicate 8 FeederLink.initial
  freeCells := Config.cellStoreSize
  tags := TagManager.initial
  trunk := Transmitter.initial
  line := .down
  counters := TrunkCounters.zero
  notice := NoticeUnit.initial
  sweep := SweepEngine.initial
  attention := AttentionUnit.initial
  host := HostPort.initial
  resetAsserted := false
  pending := []

/-- The part has no fault outcome: a refused host command posts a result code (R183), a damaged marker or message is
discarded (R195, R197). No constructor, so nothing raises one. -/
inductive Fault where
  deriving DecidableEq, Repr

/-- Why the MODEL has no meaning for a command. -/
inductive Refusal where
  /-- Raised by `exec` for a row whose meaning is not written (none is left). Safe: the run stops. -/
  | notModelled (mnemonic : String)
  deriving DecidableEq, Repr

end Sys2Proof.Machine
end

