-- ==== Sys2Proof/Machine/Flags.lean ====
section
/-! DEFINITION. The one way to read and write a record, a link and a tag entry, and the attention reasons: raising,
clearing, the attention set and the ATTN line (Section 9). -/

namespace Sys2Proof.Machine

/-! ### Access to the numbered tables -/

/-- Record `b` of the Binding Table. -/
def State.record (s : State) (b : BindingNo) : BindingRecord := s.records[b]

/-- Replace record `b` by a function of it. -/
def State.updateRecord (s : State) (b : BindingNo) (f : BindingRecord → BindingRecord) : State :=
  { s with records := s.records.set b (f s.records[b]) }

/-- Feeder Receiver `l`. -/
def State.feeder (s : State) (l : LinkNo) : FeederLink := s.feeders[l]

/-- Replace Feeder Receiver `l` by a function of it. -/
def State.updateFeeder (s : State) (l : LinkNo) (f : FeederLink → FeederLink) : State :=
  { s with feeders := s.feeders.set l (f s.feeders[l]) }

/-- The Tag Table entry of `t`. -/
def State.tagEntry (s : State) (t : Tag) : TagEntry := s.tags.table[t]

/-- Write the Tag Table entry of `t`. -/
def State.setTagEntry (s : State) (t : Tag) (e : TagEntry) : State :=
  { s with tags.table := s.tags.table.set t e }

/-- The class a record names, read at the moment of use (R12, R14). -/
def State.classOf (s : State) (b : BindingNo) : PolicyClass := s.classes[(s.record b).cls]

/-- Every binding number, ascending. -/
def allBindings : List BindingNo := List.finRange 48

/-! ### Attention reasons -/

/-- The bit of a per-record reason (Table 11-E). -/
def RecordReason.mask : RecordReason → BitVec 5
  | .live => 0x01#5
  | .suspended => 0x02#5
  | .silent => 0x04#5
  | .reshaped => 0x08#5
  | .retired => 0x10#5

/-- The bit of a part-level reason (Table 11-D, ATTENTION SUMMARY byte 6). -/
def PartReason.mask : PartReason → BitVec 6
  | .tableFull => 0x01#6
  | .overrun => 0x02#6
  | .tagStranded => 0x04#6
  | .session => 0x08#6
  | .sweepDone => 0x10#6
  | .link => 0x20#6

/-- Whether the enable mask has the per-record reason set. -/
def State.recordEnabled (s : State) (r : RecordReason) : Bool :=
  s.attention.recordEnables &&& r.mask != 0#5

/-- Whether the enable mask has the part-level reason set. -/
def State.partEnabled (s : State) (r : PartReason) : Bool :=
  s.attention.partEnables &&& r.mask != 0#6

/-- R168 for a per-record reason: pending if enabled, coalesced if pending, dropped if disabled. -/
def State.raiseRecord (s : State) (b : BindingNo) (r : RecordReason) : State :=
  if s.recordEnabled r then s.updateRecord b fun x => { x with reasons := x.reasons ||| r.mask } else s

/-- R168 for a part-level reason. -/
def State.raisePart (s : State) (r : PartReason) : State :=
  if s.partEnabled r then { s with attention.part := s.attention.part ||| r.mask } else s

/-- The attention set, ascending: "a binding number is in the attention set exactly when its record has a pending
reason" (R169). -/
def State.attentionSet (s : State) : List BindingNo :=
  allBindings.filter fun b => (s.record b).reasons != 0#5

/-- Whether the part drives ATTN low (R172); released while RESET is asserted (R194). -/
def State.attnLow (s : State) : Bool :=
  !s.resetAsserted && (s.attention.part != 0#6 || !s.attentionSet.isEmpty)

end Sys2Proof.Machine
end

