-- ==== Sys2Proof/Machine/Ops.lean ====
section
/-! DEFINITION. The shared operations over records, leases, cells and tags: key look-up, lease start and renewal,
returning cells, tag release, grant and stranding, the notices owed, retirement and its completion (Sections 1 to 6). -/

namespace Sys2Proof.Machine

/-! ### Taking an event -/

/-- "While RESET is asserted the part takes no event" (R194); otherwise the event is taken whole. -/
def takeEvent (s : State) (f : State → State) : Host.Outcome State Fault Refusal :=
  .next (if s.resetAsserted then s else f s)

/-! ### Keys and the choice of record (R7 to R10) -/

/-- R7: "A record in a state other than FREE and RETIRED is called active." -/
def RecordState.active : RecordState → Bool
  | .free | .retired => false
  | .candidate | .tagWait | .announcing | .live | .suspended | .silent | .retiring => true

/-- R9: a key resolves to the active record holding it, if there is one. -/
def State.resolveKey (s : State) (k : Key) : Option BindingNo :=
  allBindings.find? fun b => (s.record b).state.active && (s.record b).key == k

/-- R10: the lowest-numbered record whose state is FREE. -/
def State.lowestFree (s : State) : Option BindingNo :=
  allBindings.find? fun b => (s.record b).state == .free

/-- R22: the lowest-numbered RETIRED record showing the key. -/
def State.retiredShowing (s : State) (k : Key) : Option BindingNo :=
  allBindings.find? fun b => (s.record b).state == .retired && (s.record b).key == k

/-! ### Leases (R15 to R17) -/

/-- R16: the lease starts afresh with the lease length of the record's class at that moment. -/
def State.startLease (s : State) (b : BindingNo) : State :=
  s.updateRecord b fun r => { r with lease := some (s.classOf b).leaseLength }

/-- R17: a frame close renews the lease of a record whose lease runs, and leaves a stopped lease stopped. -/
def State.renewLease (s : State) (b : BindingNo) : State :=
  if (s.record b).lease.isSome then s.startLease b else s

/-! ### The Cell Store (R39, R42) -/

/-- R42: the free-cell count rises by the number of cells returned. -/
def State.returnCells (s : State) (n : Nat) : State := { s with freeCells := s.freeCells + n }

/-! ### Going FREE (R6) -/

/-- The record takes the free values of Table 1-C (R6). -/
def State.goFree (s : State) (b : BindingNo) : State := s.updateRecord b fun _ => BindingRecord.free

/-- R74: the record leaves the wait queue from wherever it stands. -/
def State.leaveWaitQueue (s : State) (b : BindingNo) : State :=
  { s with tags.waitQueue := s.tags.waitQueue.erase b }

/-- The record leaves the owed list from its place (R154). -/
def State.leaveOwed (s : State) (b : BindingNo) : State :=
  { s with notice.owed := s.notice.owed.erase b }

/-! ### Notices owed (R55, R99, R116, R137, R154) -/

/-- The notice phase becomes OWED and the record joins the tail of the owed list (R154). -/
def State.oweNotice (s : State) (b : BindingNo) : State :=
  let s := s.updateRecord b fun r => { r with phase := .owed }
  { s with notice.owed := s.notice.owed ++ [b] }

/-- OWED while the session is UP, and AWAIT_SESSION while it is not (R55, R99, R137). -/
def State.oweOrAwait (s : State) (b : BindingNo) : State :=
  if s.notice.session = .up then s.oweNotice b
  else s.updateRecord b fun r => { r with phase := .awaitSession }

/-! ### Tags (R67 to R76) -/

/-- R68: a FREE tag is ready when its age is equal to or above the hold-off. While a hold-off expiry stands to be taken
for waiting records, the tick that is that expiry has not been taken by the Tag Manager, and no tag is ready yet
(R70, R73 "no FREE tag is ready while a record waits", log 3). -/
def State.tagReady (s : State) (t : Tag) : Bool :=
  match s.tagEntry t with
  | .free age => decide (s.tags.holdOff ≤ age) && !(s.tags.holdOffDue && !s.tags.waitQueue.isEmpty)
  | _ => false

/-- The free list's tag becomes HELD by the record and the record's tag field names it (R67, R72, R73, R75). -/
def State.holdTag (s : State) (b : BindingNo) (t : Tag) : State :=
  let s := s.setTagEntry t (.held b)
  let s := { s with tags.freeList := s.tags.freeList.erase t }
  s.updateRecord b fun r => { r with tag := some t }

/-- R76: a release. A HELD tag leaves its holder's tag field, a STRANDED one lowers the stranded count, and the tag joins
the tail of the free list with age 0. A FREE tag is not released. -/
def State.releaseTag (s : State) (t : Tag) : State :=
  let join (s : State) : State :=
    let s := s.setTagEntry t (.free 0)
    { s with tags.freeList := s.tags.freeList ++ [t] }
  match s.tagEntry t with
  | .free _ => s
  | .held b => join (s.updateRecord b fun r => { r with tag := none })
  | .stranded _ => join { s with tags.strandedCount := s.tags.strandedCount - 1 }

/-- Release the tag a record holds, if it holds one (R77). -/
def State.releaseTagOf (s : State) (b : BindingNo) : State :=
  match (s.record b).tag with
  | some t => s.releaseTag t
  | none => s

/-- Entry to ANNOUNCING from admission (R55). -/
def State.announceAdmitted (s : State) (b : BindingNo) : State :=
  let s := s.updateRecord b fun r => { r with state := .announcing, lease := none, run := 0, trial := none }
  s.oweOrAwait b

/-- One grant of R73: the head of the free list to the head of the wait queue. -/
def State.grantOne (s : State) (b : BindingNo) (t : Tag) : State :=
  let s := s.holdTag b t
  let s := s.leaveWaitQueue b
  s.announceAdmitted b

/-- R73: "the Tag Manager grants tags for as long as the wait queue is not empty and the tag at the head of the free list
is ready". Each grant shortens the wait queue, so its length bounds the grants. -/
def State.grantUpTo (s : State) : Nat → State
  | 0 => s
  | n + 1 =>
    match s.tags.waitQueue, s.tags.freeList with
    | b :: _, t :: _ => if s.tagReady t then (s.grantOne b t).grantUpTo n else s
    | _, _ => s

/-- A grant event (R73). -/
def State.grantEvent (s : State) : State := s.grantUpTo s.tags.waitQueue.length

/-- R73, R76: an event that released a tag while the hold-off is 0 is a grant event, its grants made after every release of
the event. `before` is the state the event found: an event has released exactly when its free list has grown (log 18). -/
def State.grantIfReleased (s before : State) : State :=
  if s.tags.holdOff = 0 ∧ before.tags.freeList.length < s.tags.freeList.length then s.grantEvent else s

/-! ### Entry to LIVE (R86) and the lapse of a record (R61, R63) -/

/-- Entry to LIVE (R86). -/
def State.enterLive (s : State) (b : BindingNo) : State :=
  let s := s.updateRecord b fun r =>
    { r with state := .live, run := 0, consecutiveBad := 0, faults := 0, trial := none, phase := .none, announced := true }
  let s := s.startLease b
  s.raiseRecord b .live

/-- A lapse at lease expiry: the record leaves the wait queue, gives a tag back if it holds one, and goes FREE, quietly
(R6, R61, R63, log 11). -/
def State.lapse (s : State) (b : BindingNo) : State :=
  let s := s.leaveWaitQueue b
  let s := s.releaseTagOf b
  s.goFree b

/-! ### Retirement (Section 6) -/

/-- The fields a RETIRED record takes at completion (R119). -/
def BindingRecord.completed (r : BindingRecord) : BindingRecord :=
  { r with
    state := .retired, tag := none, lease := none, trial := none, run := 0, consecutiveBad := 0, inFlight := 0,
    phase := .none, bindPending := false, announced := false, reasons := r.reasons ||| RecordReason.retired.mask }

/-- R119: completion of retirement, after the tag has been released or stranded: FREE under auto-clear or a disabled
RETIRED reason, RETIRED with its reason otherwise. -/
def State.completeRetirement (s : State) (b : BindingNo) : State :=
  if (s.classOf b).autoClear || !s.recordEnabled .retired then s.goFree b
  else s.updateRecord b BindingRecord.completed

/-- R77, R119: the record's tag is released and the record completes. -/
def State.releaseAndComplete (s : State) (b : BindingNo) : State := (s.releaseTagOf b).completeRetirement b

/-- R116: the drain end of a RETIRING record, by its announced flag and the session as they stand. -/
def State.drainEnd (s : State) (b : BindingNo) : State :=
  if (s.record b).announced then s.oweNotice b
  else if s.notice.session = .up then s.releaseAndComplete b
  else s.updateRecord b fun r => { r with phase := .awaitSession }

/-- R137 step 4: a record whose in-flight count is 0 in DRAIN has its notice moved on. -/
def State.moveDrained (s : State) (b : BindingNo) : State :=
  if (s.record b).phase = .drain ∧ (s.record b).inFlight = 0 then
    match (s.record b).state with
    | .retiring => s.drainEnd b
    | .announcing => s.oweOrAwait b
    | _ => s
  else s

/-- Entry to RETIRING with a cause: the lease stops, the run is 0 and the trial geometry absent (R3, R16, R115). -/
def BindingRecord.retiring (r : BindingRecord) (c : RetireCause) : BindingRecord :=
  { r with state := .retiring, cause := some c, lease := none, run := 0, trial := none }

/-- R110: a CANDIDATE or TAG_WAIT record leaves the wait queue, gives back a fixed tag, and completes. -/
def State.retireBeforeAnnouncing (s : State) (b : BindingNo) (c : RetireCause) : State :=
  let s := s.updateRecord b fun r => { r with cause := some c }
  let s := s.leaveWaitQueue b
  s.releaseAndComplete b

/-- R111 to R113: the course from ANNOUNCING, by notice phase and announced flag. -/
def State.retireAnnouncing (s : State) (b : BindingNo) (c : RetireCause) : State :=
  match (s.record b).phase with
  | .outstanding => s.updateRecord b fun r => { r.retiring c with bindPending := true }
  | .owed =>
    if (s.record b).announced then s.updateRecord b fun r => r.retiring c
    else
      let s := s.updateRecord b fun r => { r with cause := some c }
      let s := s.leaveOwed b
      s.releaseAndComplete b
  | .none | .drain | .awaitSession => s.updateRecord b fun r => r.retiring c

/-- R115: the course from LIVE, SUSPENDED or SILENT. With nothing in flight the drain end is applied at once. -/
def State.retireForwarding (s : State) (b : BindingNo) (c : RetireCause) : State :=
  let s := s.updateRecord b fun r => { r.retiring c with consecutiveBad := 0, phase := .drain }
  s.moveDrained b

/-- R109: retirement begins with a cause, by the state of the record at that moment. A RETIRING record keeps its cause,
and a RETIRED or FREE record is not retired. -/
def State.beginRetirement (s : State) (b : BindingNo) (c : RetireCause) : State :=
  match (s.record b).state with
  | .candidate | .tagWait => s.retireBeforeAnnouncing b c
  | .announcing => s.retireAnnouncing b c
  | .live | .suspended | .silent => s.retireForwarding b c
  | .free | .retiring | .retired => s

end Sys2Proof.Machine
end

