-- ==== Sys2Proof/Machine/Arbiter.lean ====
section
/-! DEFINITION. The trunk output: what the Notice Unit offers, what the arbiter begins, and the bytes of each outbound
item (R131, R134, R136, R148, R155, R156, R196, Table 11-B). -/

namespace Sys2Proof.Machine

/-! ### Composition of outbound items (R196, Table 11-B) -/

/-- A tag as the tag byte of an outbound item. -/
def tagByte (t : Tag) : Byte := byteOf t.number

/-- DATA frame: tag, frame number, cell count, the cells, CRC-16. -/
def dataBytes (d : Descriptor) : List Byte :=
  withCrc ([tagByte d.tag, d.frameNumber, byteOf d.cellCount] ++ d.cells.flatten)

/-- HELLO: tag byte 00h, 01h, session number, CRC-16. -/
def helloBytes (number : Byte) : List Byte := withCrc [0x00#8, 0x01#8, number]

/-- Bits 6:4 link, bits 3:0 stream number (Table 11-B, Table 11-G). -/
def keyByte (k : Key) : Byte := byteOf (k.link.val * 16 + k.stream.val)

/-- BIND: 00h, 02h, sequence number, tag, key, format code, cell count, CRC-16. A record whose BIND is sent has a geometry
(R2); an absent one would read 0. -/
def bindBytes (seq : Byte) (t : Tag) (r : BindingRecord) : List Byte :=
  withCrc [0x00#8, 0x02#8, seq, tagByte t, keyByte r.key,
    byteOf ((r.geometry.map fun g => g.format.val).getD 0), byteOf ((r.geometry.map (·.cells)).getD 0)]

/-- UNBIND: 00h, 03h, sequence number, tag, CRC-16. -/
def unbindBytes (seq : Byte) (t : Tag) : List Byte := withCrc [0x00#8, 0x03#8, seq, tagByte t]

/-- A notice as its kind lays it out, with the record read at the begin (R196). -/
def State.noticeBytes (s : State) (kind : NoticeKind) (seq : Byte) (b : BindingNo) (t : Tag) : List Byte :=
  match kind with
  | .bind => bindBytes seq t (s.record b)
  | .unbind => unbindBytes seq t

/-! ### What the Notice Unit offers (R155) -/

/-- The window entry of a sequence number (R158). -/
def State.windowEntry (s : State) (q : Byte) : Option WindowEntry := s.notice.window.find? (·.seq == q)

/-- One item the Notice Unit offers to the arbiter. -/
inductive Offer where
  | hello (h : Hello)
  | again (e : WindowEntry)
  | first (b : BindingNo) (t : Tag)
  deriving DecidableEq, Repr

/-- R155 item 2: the window entry that has been due for retransmission longest. -/
def State.dueEntry (s : State) : Option WindowEntry := s.notice.retransmit.findSome? s.windowEntry

/-- R155 item 3: the record at the head of the owed list, when the session is UP and the window has room. It holds a tag
(R2). -/
def State.owedOffer (s : State) : Option Offer :=
  if s.notice.session = .up ∧ s.notice.window.length < Config.windowCapacity then
    match s.notice.owed with
    | b :: _ => (s.record b).tag.map (Offer.first b)
    | [] => none
  else none

/-- R155: the first that exists of the due HELLO, the entry due longest, and the head of the owed list. -/
def State.noticeOffer (s : State) : Option Offer :=
  match s.notice.hello.filter (·.due) with
  | some h => some (.hello h)
  | none =>
    match s.dueEntry with
    | some e => some (.again e)
    | none => s.owedOffer

/-- R156: the counter's value, passing over values a window entry holds. A value is passed over at most once for each
entry. -/
def freshSeq (w : List WindowEntry) : Nat → Byte → Byte
  | 0, c => c
  | n + 1, c => if w.any (·.seq == c) then freshSeq w n (c + 1) else c

/-- The sequence number a new window entry takes (R156). -/
def State.nextSeq (s : State) : Byte := freshSeq s.notice.window s.notice.window.length s.notice.sequence

/-- R155, R112: a BIND for an ANNOUNCING record, an UNBIND for a RETIRING one. -/
def noticeKindOf : RecordState → NoticeKind
  | .announcing => .bind
  | _ => .unbind

/-! ### Begins -/

/-- R164: a begin of a notice or HELLO whose count was already 1 or more is a retransmission. -/
def State.countRetransmission (s : State) (count : Nat) : State :=
  if 1 ≤ count then { s with counters.retransmitted := satSucc s.counters.retransmitted } else s

/-- The output becomes BUSY with an item (R134, R136). -/
def State.startItem (s : State) (i : TxItem) (bytes : List Byte) : State := { s with trunk.output := .busy i bytes }

/-- R148: the begin of the HELLO. -/
def State.beginHello (s : State) (h : Hello) : State :=
  let s := s.countRetransmission h.count
  let s := { s with notice.hello := some { h with due := false, count := h.count + 1 } }
  s.startItem .hello (helloBytes s.notice.number)

/-- Replace the window entry of a sequence number. -/
def State.updateEntry (s : State) (q : Byte) (f : WindowEntry → WindowEntry) : State :=
  { s with notice.window := s.notice.window.map fun e => if e.seq = q then f e else e }

/-- R157: the begin of a retransmission. The entry is due no longer and its count rises by 1. -/
def State.beginAgain (s : State) (e : WindowEntry) : State :=
  let s := s.countRetransmission e.count
  let s := s.updateEntry e.seq fun x => { x with count := x.count + 1, timer := none }
  let s := { s with notice.retransmit := s.notice.retransmit.erase e.seq }
  s.startItem (.notice e.seq) (s.noticeBytes e.kind e.seq e.binding e.tag)

/-- R155, R156: the begin of the notice of the head of the owed list. -/
def State.beginFirst (s : State) (b : BindingNo) (t : Tag) : State :=
  let q := s.nextSeq
  let kind := noticeKindOf (s.record b).state
  let entry : WindowEntry := ⟨q, kind, b, t, 1, none⟩
  let s := { s with
    notice.owed := s.notice.owed.tail, notice.window := s.notice.window ++ [entry], notice.sequence := q + 1 }
  let s := s.updateRecord b fun r => { r with phase := .outstanding }
  s.startItem (.notice q) (s.noticeBytes kind q b t)

/-- Begin the item the Notice Unit offered (R136). -/
def State.beginOffer (s : State) : Offer → State
  | .hello h => s.beginHello h
  | .again e => s.beginAgain e
  | .first b t => s.beginFirst b t

/-- R134: the conditions on the record a descriptor names, and its tag. -/
def State.mayCarry (s : State) (d : Descriptor) : Bool :=
  match d.binding with
  | some b => s.tagEntry d.tag == .held b && (s.record b).announced && (s.record b).phase != .outstanding
  | none => false

/-- R134: all the conditions of a begin. -/
def State.mayBegin (s : State) (d : Descriptor) : Bool :=
  decide (d.cellCount ≤ s.trunk.credit) && s.notice.session == .up && s.mayCarry d

/-- Mark the oldest descriptor that satisfies `p` as in transmission. -/
def markFirst (p : Descriptor → Bool) : List Descriptor → List Descriptor
  | [] => []
  | d :: q => if p d then { d with inTransmission := true } :: q else d :: markFirst p q

/-- The oldest descriptor of a priority is chosen, and begun when R134 lets it (R131). -/
def State.beginData (s : State) (p : Priority) (d : Descriptor) : State :=
  if s.mayBegin d then
    let s := { s with trunk.credit := s.trunk.credit - d.cellCount }
    let s := { s with trunk.queue := markFirst (fun x => x.priority == p && !x.inTransmission) s.trunk.queue }
    s.startItem .data (dataBytes d)
  else s

/-- The oldest descriptor of a priority that is not in transmission. -/
def State.oldest (s : State) (p : Priority) : Option Descriptor :=
  s.trunk.queue.find? fun x => x.priority == p && !x.inTransmission

/-- R131 items 2 to 4: the oldest EXPEDITED descriptor, else the oldest NORMAL one, else nothing. No other descriptor is
begun in the place of a chosen one. -/
def State.chooseData (s : State) : State :=
  match s.oldest .expedited with
  | some d => s.beginData .expedited d
  | none =>
    match s.oldest .normal with
    | some d => s.beginData .normal d
    | none => s

/-- R131: the arbiter's choice at the end of an event, made when the output is IDLE and the trunk line UP. -/
def State.arbitrate (s : State) : State :=
  match s.trunk.output with
  | .busy _ _ => s
  | .idle =>
    if s.line = .up then
      match s.noticeOffer with
      | some o => s.beginOffer o
      | none => s.chooseData
    else s

end Sys2Proof.Machine
end

