-- ==== Sys2Proof/Machine/Operands.lean ====
section
/-! DEFINITION. The command block's operands with their range checks (R183, R198, Table 11-F), the result codes (Table
10-B), and the posting of a response (R182, R183). -/

namespace Sys2Proof.Machine

/-! ### Operand forms (R198) -/

/-- Byte `i` of the command block. -/
def State.operand (s : State) (i : Fin 16) : Byte := s.host.command[i]

/-- A number in a range from 0: links, streams, classes and binding numbers. -/
def below (n : Nat) (b : Byte) : Option (Fin n) := if h : b.toNat < n then some ⟨b.toNat, h⟩ else none

/-- "A flag byte must be 00h or 01h" (R198). -/
def flagOperand (b : Byte) : Option Bool :=
  if b = 0x00#8 then some false else if b = 0x01#8 then some true else none

/-- A tag number from 1 to 31. -/
def tagOperand (b : Byte) : Option Tag := if b = 0x00#8 then none else below 31 (b - 1)

/-- A fixed tag number: 0 for no fixed tag, or 1 to 31 (R186). -/
def fixedTagOperand (b : Byte) : Option (Option Tag) := if b = 0x00#8 then some none else (tagOperand b).map some

/-- A value in a closed range. -/
def within (lo hi : Nat) (n : Nat) : Option Nat := if lo ≤ n ∧ n ≤ hi then some n else none

/-- A per-record reason mask: no bit above bit 4 (R198). -/
def recordMaskOperand (b : Byte) : Option (BitVec 5) :=
  if b.toNat < 32 then some (b.extractLsb' 0 5) else none

/-- A part-level reason mask: no bit above bit 5 (R198). -/
def partMaskOperand (b : Byte) : Option (BitVec 6) :=
  if b.toNat < 64 then some (b.extractLsb' 0 6) else none

/-- FFh for any, or a value in range: the link and class of a SWEEP (R198). -/
def anyOr (n : Nat) (b : Byte) : Option (Option (Fin n)) := if b = 0xFF#8 then some none else (below n b).map some

/-- The operands of a SET CLASS (Table 1-F, Table 11-F): the class and its seven parameters, all in range. -/
def State.classOperands (s : State) : Option (ClassNo × PolicyClass) := do
  let c ← below 4 (s.operand 1)
  let admission ← within 1 15 (s.operand 2).toNat
  let fault ← within 1 15 (s.operand 3).toNat
  let retire ← within 1 63 (s.operand 4).toNat
  let lease ← within 10 4095 (word16 (s.operand 5) (s.operand 6)).toNat
  let options ← within 0 7 (s.operand 7).toNat
  let bits := BitVec.ofNat 3 options
  return (c, {
    admissionCount := admission, faultThreshold := fault, retireThreshold := retire, leaseLength := lease,
    priority := if bits.getLsbD 0 then .expedited else .normal,
    reshapeAllowed := bits.getLsbD 1, autoClear := bits.getLsbD 2 })

/-- A SWEEP's state set: not empty, FREE and bits 9 to 15 clear (R192, R198). -/
def stateSetOperand (x : BitVec 16) : Option (BitVec 16) :=
  if x ≠ 0#16 ∧ x &&& 0xFE01#16 = 0#16 then some x else none

/-- A SWEEP's action (Table 11-E). -/
def actionOperand (b : Byte) : Option SweepAction :=
  if b = 0x01#8 then some .retire
  else if b = 0x02#8 then some .clearCounters
  else if b = 0x03#8 then some .freeReports
  else none

/-- The operands of a SWEEP (R192, Table 11-F). -/
def State.sweepOperands (s : State) : Option SweepJob := do
  let link ← anyOr 8 (s.operand 1)
  let cls ← anyOr 4 (s.operand 2)
  let states ← stateSetOperand (word16 (s.operand 3) (s.operand 4))
  let pinned ← flagOperand (s.operand 5)
  let action ← actionOperand (s.operand 6)
  return ⟨link, cls, states, pinned, action⟩

/-! ### Command codes and result codes -/

/-- Whether a code names one of the twenty commands: 01h to 14h (Table 11-F). -/
def knownCode (b : Byte) : Bool := decide (1 ≤ b.toNat ∧ b.toNat ≤ 20)

/-- Table 10-B. -/
inductive Result where
  | ok | accepted | already | unknownCommand | range | busy | noRecord | keyExists | tableFull | tagNotFree
  | tagNotReady | badState | sessionState
  deriving DecidableEq, Repr

/-- The code of a result (Table 10-B). -/
def Result.code : Result → Byte
  | .ok => 0x00#8
  | .accepted => 0x01#8
  | .already => 0x02#8
  | .unknownCommand => 0x10#8
  | .range => 0x11#8
  | .busy => 0x12#8
  | .noRecord => 0x13#8
  | .keyExists => 0x14#8
  | .tableFull => 0x15#8
  | .tagNotFree => 0x16#8
  | .tagNotReady => 0x17#8
  | .badState => 0x18#8
  | .sessionState => 0x19#8

/-! ### The response block -/

/-- A response block: result code, command code, data from byte 2, and 00h in every byte not used (R182, Section 11-6). -/
def responseBlock (r : Result) (code : Byte) (data : List Byte) : Vector Byte 32 :=
  Vector.ofFn fun i => (r.code :: code :: data).getD i.val 0#8

/-- R182 steps 3 and 4: the response is placed and the mailbox goes DONE. The data is read from the state the event
leaves. -/
def State.post (s : State) (r : Result) (data : List Byte) : State :=
  { s with host.response := responseBlock r (s.operand 0) data, host.mailbox := .done }

/-- R183: a refused command changes no state of the part; every byte after the two codes is 00h. -/
def State.refuse (s : State) (r : Result) : State := s.post r []

/-- R182: the command event of the command in hand. It arises when the mailbox is BUSY and the command block, which is
the command in hand, carries the code (log 5, log 6). -/
def commandEvent (s : State) (code : Byte) (f : State → State) : Host.Outcome State Fault Refusal :=
  takeEvent s fun s => if s.host.mailbox = .busy ∧ s.operand 0 = code then f s else s

end Sys2Proof.Machine
end

