-- ==== Sys2Proof/Machine/Responses.lean ====
section
/-! DEFINITION. What the host reads: the codes of Table 11-E, the record snapshot (Table 11-G), the link snapshot, the
STATUS response (Tables 11-H, 11-J) and the host windows (Table 11-D). -/

namespace Sys2Proof.Machine

/-! ### Codes (Table 11-E) -/

/-- Record state codes. -/
def RecordState.code : RecordState → Nat
  | .free => 0 | .candidate => 1 | .tagWait => 2 | .announcing => 3 | .live => 4 | .suspended => 5 | .silent => 6
  | .retiring => 7 | .retired => 8

/-- Notice phase codes. -/
def NoticePhase.code : NoticePhase → Nat
  | .none => 0 | .drain => 1 | .owed => 2 | .outstanding => 3 | .awaitSession => 4

/-- Retire cause codes; 0 is none. -/
def causeCode : Option RetireCause → Nat
  | none => 0
  | some .host => 1 | some .lease => 2 | some .fault => 3 | some .geometry => 4 | some .refused => 5
  | some .linkOff => 6 | some .sweep => 7

/-- Session state codes. -/
def Session.code : Session → Nat
  | .closed => 0 | .opening => 1 | .up => 2 | .resync => 3 | .failed => 4

/-- Link state codes. -/
def LinkState.code : LinkState → Nat
  | .disabled => 0 | .seeking => 1 | .up => 2

/-- Mailbox state codes (Table 11-D). -/
def Mailbox.code : Mailbox → Nat
  | .idle => 0 | .busy => 1 | .done => 2

/-- A flag as a number. -/
def flagNat (b : Bool) : Nat := if b then 1 else 0

/-! ### The record snapshot (R20, Table 11-G) -/

/-- Response bytes 2 to 31 of a record snapshot, with the form code in byte 15 (00h but in a NEXT ATTENTION response). -/
def snapshotBytes (b : BindingNo) (r : BindingRecord) (form : Byte) : List Byte :=
  [ byteOf (b.val + r.cls.val * 64),
    byteOf (r.state.code + r.consecutiveBad * 16),
    byteOf (r.key.link.val * 16 + r.key.stream.val + flagNat r.pinned * 128),
    byteOf ((r.tag.map Tag.number).getD 0 + causeCode r.cause * 32),
    byteOf (r.reasons.toNat + r.phase.code * 32),
    byteOf ((r.geometry.map (·.cells)).getD 0 + flagNat (r.origin == .provisioned) * 128),
    byteOf ((r.trial.map (·.cells)).getD 0 + flagNat r.lastFrame.isSome * 128),
    byteOf ((r.geometry.map fun g => g.format.val).getD 0 + (r.trial.map fun g => g.format.val).getD 0 * 16),
    r.lastFrame.getD 0#8,
    byteOf (r.faults + flagNat r.announced * 64 + flagNat r.strandedNote * 128),
    byteOf (r.inFlight + flagNat r.bindPending * 64) ]
  ++ bytes16 (BitVec.ofNat 16 (r.run * 4096 + r.lease.getD 0))
  ++ [form]
  ++ bytes32 r.forwarded ++ bytes32 r.withheld ++ bytes32 r.bad ++ bytes32 r.gaps

/-- The snapshot of record `b` as it stands. -/
def State.snapshot (s : State) (b : BindingNo) : List Byte := snapshotBytes b (s.record b) 0x00#8

/-- R21: the four counters set to 0. -/
def BindingRecord.clearCounters (r : BindingRecord) : BindingRecord :=
  { r with forwarded := 0, withheld := 0, bad := 0, gaps := 0 }

/-! ### The link snapshot (R44, Table 11-H) -/

/-- Response bytes from 2 of a READ LINK. -/
def linkBytes (l : LinkNo) (f : FeederLink) : List Byte :=
  [ byteOf l.val,
    byteOf (f.state.code + f.defaultClass.val * 4 + flagNat f.frame.isSome * 16),
    byteOf ((f.frame.map fun x => x.stream.val).getD 0),
    byteOf ((f.frame.map (·.cellsReceived)).getD 0) ]
  ++ bytes32 f.framesSeen ++ bytes32 f.badFrames ++ bytes32 f.overruns ++ bytes32 f.refused ++ bytes32 f.discarded
  ++ bytes32 f.lockLosses

/-! ### STATUS (R184, R199, Table 11-J) -/

/-- The number of FREE tags (R83). -/
def State.freeTagCount (s : State) : Nat := s.tags.freeList.length

/-- The number of FREE tags that are ready (R83). -/
def State.readyTagCount (s : State) : Nat := (s.tags.freeList.filter s.tagReady).length

/-- Whether a DATA frame is in transmission (R142). -/
def State.sendingData (s : State) : Bool :=
  match s.trunk.output with
  | .busy .data _ => true
  | _ => false

/-- Response bytes from 2 of a STATUS command (Table 11-J). -/
def State.statusBytes (s : State) : List Byte :=
  [ byteOf (s.notice.session.code + s.notice.window.length * 8 + flagNat (s.line == .up) * 64
      + flagNat s.sendingData * 128),
    s.notice.number,
    byteOf ((s.notice.hello.map (·.count)).getD 7 + s.freeTagCount * 8),
    s.notice.sequence,
    byteOf s.notice.owed.length,
    byteOf s.trunk.queue.length ]
  ++ bytes16 (BitVec.ofNat 16 s.trunk.credit)
  ++ [ byteOf (s.readyTagCount * 8 + s.freeCells / 256),
    byteOf s.freeCells,
    byteOf s.tags.strandedCount,
    byteOf s.tags.waitQueue.length,
    byteOf s.attention.part.toNat,
    byteOf s.attentionSet.length ]
  ++ bytes32 s.counters.framesSent ++ bytes32 s.counters.framesPurged ++ bytes32 s.counters.retransmitted
  ++ bytes32 s.counters.strayReplies

/-- Bytes 8 to 15 of the command block after an accepted STATUS (R199). -/
def State.timingAndSweepBytes (s : State) : List Byte :=
  [byteOf s.notice.timeout]
  ++ bytes16 (BitVec.ofNat 16 s.tags.holdOff)
  ++ [ byteOf s.tags.strandedThreshold,
    byteOf (flagNat s.sweep.running + flagNat s.sweep.aborted * 2),
    byteOf s.sweep.cursor, byteOf s.sweep.matched, byteOf s.sweep.acted ]

/-- The sweep result a SWEEP or ABORT SWEEP response carries (Table 11-H). -/
def State.sweepBytes (s : State) : List Byte :=
  [ byteOf (flagNat s.sweep.running + flagNat s.sweep.aborted * 2), byteOf s.sweep.cursor, byteOf s.sweep.matched,
    byteOf s.sweep.acted ]

/-- The session state and number a TRUNK OPEN or TRUNK CLOSE response carries (Table 11-H). -/
def State.sessionBytes (s : State) : List Byte := [byteOf s.notice.session.code, s.notice.number]

/-! ### Windows (R179, Table 11-D) -/

/-- The STATUS window's byte. -/
def State.statusByte (s : State) : Byte :=
  byteOf (s.host.mailbox.code + flagNat s.host.collision * 4 + flagNat s.attnLow * 8 + s.notice.session.code * 16)

/-- One byte of the attention-set flags: bit i of byte k is binding number 8k + i. -/
def State.summaryByte (s : State) (k : Nat) : Byte :=
  byteOf (((s.attentionSet.filter fun b => b.val / 8 == k).map fun b => 2 ^ (b.val % 8)).sum)

/-- The seven bytes of the ATTENTION SUMMARY window (R173). -/
def State.summaryBytes (s : State) : List Byte :=
  (List.range 6).map s.summaryByte ++ [byteOf s.attention.part.toNat]

/-- What a read of a window address captures (R179). GO, and an address that names no window, hold nothing. -/
def State.windowBytes (s : State) (address : BitVec 7) : List Byte :=
  if address = windowStatus then [s.statusByte]
  else if address = windowSummary then s.summaryBytes
  else if address = windowCommand then s.host.command.toList
  else if address = windowResponse then s.host.response.toList
  else []

end Sys2Proof.Machine
end

