-- ==== Sys2Proof/Machine/Attention.lean ====
section
/-! DEFINITION. The attention family: NEXT_ATTENTION and ACK_ATTENTION (R174, R175, R190). -/

namespace Sys2Proof.Machine

/-- R174: the first binding number of the attention set at or above the NEXT cursor, else the lowest of the set. -/
def State.nextInSet (s : State) : Option BindingNo :=
  (s.attentionSet.find? fun b => decide (s.attention.cursor ≤ b)).or s.attentionSet.head?

/-- The part-level form of a NEXT ATTENTION response: the reasons, the set's size, form 01h in byte 15 (Table 11-H). -/
def State.partForm (s : State) : List Byte :=
  [byteOf s.attention.part.toNat, byteOf s.attentionSet.length] ++ List.replicate 11 0#8 ++ [0x01#8]

/-- NEXT_ATTENTION, code 09h (R174, R190). "47 followed by 0". -/
def execNextAttention (s : State) : Host.Outcome State Fault Refusal :=
  commandEvent s 0x09#8 fun s =>
    if s.attention.part ≠ 0#6 then s.post .ok s.partForm
    else
      match s.nextInSet with
      | some b => { s with attention.cursor := b + 1 }.post .ok (snapshotBytes b (s.record b) 0x02#8)
      | none => s.post .ok []

/-- R175, R120: the acknowledgement of a record's reasons. -/
def State.ackRecord (s : State) (b : BindingNo) (mask : BitVec 5) : State :=
  if (s.record b).state = .retired ∧ mask &&& RecordReason.retired.mask ≠ 0#5 then s.goFree b
  else s.updateRecord b fun r => { r with reasons := r.reasons &&& ~~~mask }

/-- R175: the acknowledgement of part-level reasons. -/
def State.ackPart (s : State) (mask : BitVec 6) : State :=
  { s with attention.part := s.attention.part &&& ~~~mask }

/-- ACK_ATTENTION, code 0Ah, with target FFh for PART (R175, R190, Table 11-F). -/
def execAckAttention (s : State) : Host.Outcome State Fault Refusal :=
  commandEvent s 0x0A#8 fun s =>
    if s.operand 1 = 0xFF#8 then
      match partMaskOperand (s.operand 2) with
      | some mask =>
        let s := s.ackPart mask
        s.post .ok [0xFF#8, byteOf s.attention.part.toNat, 0x00#8]
      | none => s.refuse .range
    else
      match below 48 (s.operand 1), recordMaskOperand (s.operand 2) with
      | some b, some mask =>
        let s := s.ackRecord b mask
        s.post .ok [byteOf b.val, byteOf (s.record b).reasons.toNat, byteOf (s.record b).state.code]
      | _, _ => s.refuse .range

end Sys2Proof.Machine
end

