-- ==== Sys2Proof/Machine/Closes.lean ====
section
/-! DEFINITION. The frame close: the judgement of a frame, the gap, and what a close does by the state of the record its
key resolves to (R35 to R38, R47 to R57, R86 to R101, R117). -/

namespace Sys2Proof.Machine

/-- A frame close (R37, Table 2-C). `cells` are the held cells of a frame whose storage is still STORED. -/
structure FrameClose where
  key : Key
  good : Bool
  truncated : Bool
  geometry : Geometry
  frameNumber : Byte
  stored : Bool
  overrun : Bool
  cells : List (List Byte)
  deriving DecidableEq, Repr

/-- R36: the conditions that make a frame bad at its CLOSE marker. -/
def OpenFrame.badAtClose (f : OpenFrame) (declared : Byte) (crc : BitVec 16) : Bool :=
  f.parityFailed || f.cellsReceived == 0 || decide (Config.maxFrameCells < f.cellsReceived) ||
    declared.toNat != f.cellsReceived || crc != f.crc

/-- The items a frame's close carries (Table 2-C). A truncated frame is bad (R35). -/
def OpenFrame.close (f : OpenFrame) (l : LinkNo) (good truncated : Bool) : FrameClose where
  key := ⟨l, f.stream⟩
  good := good && !truncated
  truncated := truncated
  geometry := ⟨f.format, f.cellsReceived⟩
  frameNumber := f.frameNumber
  stored := f.storage == .stored
  overrun := f.overrun
  cells := f.cells

/-- A good close whose frame lost its storage: "A frame that overran and also meets one of the conditions above is bad. It
is reported and counted as bad, not as an overrun" (R36). -/
def FrameClose.overran (c : FrameClose) : Bool := c.good && c.overrun

/-- R38: a close is a gap when the record holds a last frame number and the close's number is not the one after it,
modulo 256. -/
def BindingRecord.isGap (r : BindingRecord) (c : FrameClose) : Bool :=
  match r.lastFrame with
  | some n => c.frameNumber != n + 1
  | none => false

/-- R19, R38: a gap increments the record's gaps counter, and the last frame number is then set (R3). -/
def BindingRecord.noteFrame (r : BindingRecord) (c : FrameClose) : BindingRecord :=
  { r with gaps := if r.isGap c then satSucc r.gaps else r.gaps, lastFrame := some c.frameNumber }

/-- R19: a bad close increments the record's bad counter. -/
def BindingRecord.countBad (r : BindingRecord) (c : FrameClose) : BindingRecord :=
  if c.good then r else { r with bad := satSucc r.bad }

/-- R19: a frame held back increments the record's withheld counter. -/
def BindingRecord.countWithheld (r : BindingRecord) : BindingRecord := { r with withheld := satSucc r.withheld }

/-- Table 3-B: how a good close builds the run on the trial geometry (R50, R94). -/
def BindingRecord.buildRun (r : BindingRecord) (c : FrameClose) : BindingRecord :=
  if r.trial = some c.geometry then
    { r with run := if r.isGap c then 1 else min (r.run + 1) Config.maxRun }
  else { r with trial := some c.geometry, run := 1 }

/-- R43: frames seen and bad frames at each close, and overruns at each good close with overrun yes. -/
def FeederLink.countClose (l : FeederLink) (c : FrameClose) : FeederLink :=
  { l with
    framesSeen := satSucc l.framesSeen
    badFrames := if c.good then l.badFrames else satSucc l.badFrames
    overruns := if c.overran then satSucc l.overruns else l.overruns }

/-! ### Completion of admission (R53 to R56) -/

/-- Entry to TAG_WAIT (R56): tail of the wait queue, lease afresh, trial geometry absent, run frozen. -/
def State.enterTagWait (s : State) (b : BindingNo) : State :=
  let s := { s with tags.waitQueue := s.tags.waitQueue ++ [b] }
  let s := s.updateRecord b fun r => { r with state := .tagWait, trial := none }
  s.startLease b

/-- R54, R72: the tag request, against the free list and the wait queue as they stand. -/
def State.requestTag (s : State) (b : BindingNo) : State :=
  match s.tags.waitQueue, s.tags.freeList with
  | [], t :: _ => if s.tagReady t then (s.holdTag b t).announceAdmitted b else s.enterTagWait b
  | _, _ => s.enterTagWait b

/-- R53: completion of admission. -/
def State.completeAdmission (s : State) (b : BindingNo) : State :=
  let s := s.updateRecord b fun r => { r with geometry := r.trial, trial := none }
  if (s.record b).tag.isSome then s.announceAdmitted b else s.requestTag b

/-- R13: the run against the admission count of the record's class, read at this close. -/
def State.runMeets (s : State) (b : BindingNo) : Bool := decide ((s.classOf b).admissionCount ≤ (s.record b).run)

/-! ### No record (R47 to R49) -/

/-- The values of a learnt record at its creation (R48, Table 3-A); its lease starts in the same event. -/
def BindingRecord.learntFrom (c : FrameClose) (cls : ClassNo) : BindingRecord :=
  { BindingRecord.free with
    state := .candidate, origin := .learnt, cls := cls, key := c.key, trial := some c.geometry, run := 1
    lastFrame := some c.frameNumber }

/-- R48: the creation of a learnt record, which completes admission at once when the admission count is 1. -/
def State.createLearnt (s : State) (b : BindingNo) (c : FrameClose) : State :=
  let s := s.updateRecord b fun _ => BindingRecord.learntFrom c (s.feeder c.key.link).defaultClass
  let s := s.startLease b
  if s.runMeets b then s.completeAdmission b else s

/-- R47: a close whose key resolves to no record. -/
def State.closeUnknown (s : State) (c : FrameClose) : State :=
  if c.good && !c.overrun then
    match s.lowestFree with
    | some b => s.createLearnt b c
    | none =>
      let s := s.updateFeeder c.key.link fun l => { l with refused := satSucc l.refused }
      s.raisePart .tableFull
  else s

/-! ### CANDIDATE, TAG_WAIT, ANNOUNCING, RETIRING -/

/-- R50 to R52: a close for a CANDIDATE. -/
def State.closeCandidate (s : State) (b : BindingNo) (c : FrameClose) : State :=
  let s := s.renewLease b
  if c.overran then s.updateRecord b (·.noteFrame c)
  else if c.good then
    let s := s.updateRecord b fun r => (r.buildRun c).noteFrame c
    if s.runMeets b then s.completeAdmission b else s
  else s.updateRecord b fun r => { (r.countBad c).noteFrame c with run := 0 }

/-- R57, R52: a close for a TAG_WAIT record. -/
def State.closeTagWait (s : State) (b : BindingNo) (c : FrameClose) : State :=
  let s := s.renewLease b
  s.updateRecord b fun r => (r.countBad c).noteFrame c

/-- R37, R19: a close for an ANNOUNCING record is withheld and the record's counters are updated. -/
def State.closeAnnouncing (s : State) (b : BindingNo) (c : FrameClose) : State :=
  s.updateRecord b fun r => ((r.countBad c).noteFrame c).countWithheld

/-- R117: a close for a RETIRING record is discarded. -/
def State.closeRetiring (s : State) (b : BindingNo) (c : FrameClose) : State :=
  let s := s.updateFeeder c.key.link fun l => { l with discarded := satSucc l.discarded }
  if c.stored then s.updateRecord b (·.countWithheld) else s

/-! ### LIVE (R87 to R92) -/

/-- R88, R130: the descriptor of a forwardable close, appended at the tail. -/
def State.appendFrame (s : State) (b : BindingNo) (t : Tag) (c : FrameClose) : State :=
  let d : Descriptor := ⟨some b, t, c.cells, c.frameNumber, (s.classOf b).priority, false⟩
  let s := { s with trunk.queue := s.trunk.queue ++ [d] }
  s.updateRecord b fun r =>
    { r with inFlight := r.inFlight + 1, forwarded := satSucc r.forwarded, consecutiveBad := 0 }

/-- R89: the queue-full overrun. -/
def State.queueFull (s : State) (b : BindingNo) (c : FrameClose) : State :=
  let s := s.returnCells c.cells.length
  let s := s.updateRecord b fun r => { r.countWithheld with consecutiveBad := 0 }
  let s := s.updateFeeder c.key.link fun l => { l with overruns := satSucc l.overruns }
  s.raisePart .overrun

/-- R92: suspension. -/
def State.suspend (s : State) (b : BindingNo) : State :=
  let s := s.updateRecord b fun r =>
    { r with state := .suspended, consecutiveBad := 0, run := 0, faults := 0, trial := none }
  let s := s.startLease b
  s.raiseRecord b .suspended

/-- R91: a wrong-geometry or bad close in LIVE. -/
def State.closeFaulty (s : State) (b : BindingNo) (c : FrameClose) : State :=
  let s := s.returnCells c.cells.length
  let s := s.updateRecord b fun r =>
    { (r.countBad c).countWithheld with consecutiveBad := min (r.consecutiveBad + 1) Config.maxRun }
  if (s.classOf b).faultThreshold ≤ (s.record b).consecutiveBad then s.suspend b else s

/-- Table 5-A: a close for a LIVE record. A LIVE record holds its tag (R2); without one nothing could be appended. -/
def State.closeLive (s : State) (b : BindingNo) (c : FrameClose) : State :=
  let s := s.renewLease b
  let s := s.updateRecord b (·.noteFrame c)
  if c.good && (s.record b).geometry == some c.geometry then
    match c.stored, (s.record b).tag with
    | true, some t =>
      if s.trunk.queue.length < Config.queueCapacity then s.appendFrame b t c else s.queueFull b c
    | _, _ =>
      let s := s.returnCells c.cells.length
      s.updateRecord b fun r => { r.countWithheld with consecutiveBad := 0 }
  else s.closeFaulty b c

/-! ### SUSPENDED and SILENT (R93 to R101) -/

/-- R99: entry to ANNOUNCING from requalification. -/
def State.announceRequalified (s : State) (b : BindingNo) : State :=
  let s := s.updateRecord b fun r =>
    { r with state := .announcing, lease := none, run := 0, trial := none, consecutiveBad := 0, faults := 0 }
  if 0 < (s.record b).inFlight then s.updateRecord b fun r => { r with phase := .drain } else s.oweOrAwait b

/-- R97, Table 5-B: requalification. -/
def State.requalify (s : State) (b : BindingNo) : State :=
  let r := s.record b
  if r.trial = r.geometry then
    if r.announced then s.enterLive b else s.announceRequalified b
  else if (s.classOf b).reshapeAllowed then
    let s := s.updateRecord b fun r => { r with geometry := r.trial }
    let s := s.announceRequalified b
    s.raiseRecord b .reshaped
  else s.beginRetirement b .geometry

/-- R94 to R96: a close for a SUSPENDED or SILENT record. A bad close of an unpinned record compares its suspension faults even
where they stood at 63 and did not rise (log 26). -/
def State.closeRequalifying (s : State) (b : BindingNo) (c : FrameClose) : State :=
  let s := s.renewLease b
  if c.overran then s.updateRecord b fun r => (r.noteFrame c).countWithheld
  else if c.good then
    let s := s.updateRecord b fun r => ((r.buildRun c).noteFrame c).countWithheld
    if s.runMeets b then s.requalify b else s
  else
    let s := s.updateRecord b fun r =>
      { ((r.countBad c).noteFrame c).countWithheld with run := 0, faults := min (r.faults + 1) Config.maxFaults }
    if !(s.record b).pinned && decide ((s.classOf b).retireThreshold ≤ (s.record b).faults) then
      s.beginRetirement b .fault
    else s

/-! ### The close itself (R37) -/

/-- The Binding Controller's handling of a close by the state of the record its key resolves to (R37). Held cells return
in every state but LIVE, where the kind of the close decides. -/
def State.handleClose (s : State) (c : FrameClose) : State :=
  match s.resolveKey c.key with
  | none => (s.returnCells c.cells.length).closeUnknown c
  | some b =>
    match (s.record b).state with
    | .live => s.closeLive b c
    | .candidate => (s.returnCells c.cells.length).closeCandidate b c
    | .tagWait => (s.returnCells c.cells.length).closeTagWait b c
    | .announcing => (s.returnCells c.cells.length).closeAnnouncing b c
    | .suspended | .silent => (s.returnCells c.cells.length).closeRequalifying b c
    | .retiring => (s.returnCells c.cells.length).closeRetiring b c
    | .free | .retired => s.returnCells c.cells.length

/-- R37: the close event. The open frame context becomes absent (R32), the link counters are updated (R43), and the
Binding Controller takes the close. A release in it may make it a grant event (R73). -/
def State.takeClose (s : State) (c : FrameClose) : State :=
  let s1 := s.updateFeeder c.key.link fun l => { l.countClose c with frame := none }
  (s1.handleClose c).grantIfReleased s

end Sys2Proof.Machine
end

