-- ==== Sys2Proof/Machine/Feeder.lean ====
section
/-! DEFINITION. The feeder family: OPEN_MARKER, CELL_MARKER, FRAME_CLOSE, UNRECOGNISED_MARKER, LINE_LOCK, LOCK_LOSS
(Section 2). -/

namespace Sys2Proof.Machine

/-- R33: the storage decision of an OPEN, by the state of the record its key resolves to. -/
def State.storageFor (s : State) (k : Key) : Storage :=
  match s.resolveKey k with
  | some b => if (s.record b).state = .live then .stored else .tracked
  | none => .tracked

/-- The context an OPEN marker opens (R33). -/
def OpenFrame.opened (format : Fin 16) (stream : StreamNo) (n : Byte) (storage : Storage) : OpenFrame where
  stream := stream
  format := format
  frameNumber := n
  storage := storage
  cellsReceived := 0
  cells := []
  parityFailed := false
  crc := crcStart
  overrun := false

/-- R33: an OPEN opens a frame on the link. -/
def State.openFrame (s : State) (l : LinkNo) (format : Fin 16) (stream : StreamNo) (n : Byte) : State :=
  s.updateFeeder l fun f => { f with frame := some (OpenFrame.opened format stream n (s.storageFor ⟨l, stream⟩)) }

/-- R35: a truncated frame's close, a bad close marked truncated. -/
def State.truncateFrame (s : State) (l : LinkNo) (f : OpenFrame) : State := s.takeClose (f.close l false true)

/-- OPEN_MARKER. A frame already open is truncated first, and the look-up of the new one finds the table as that close
left it (R33, R35). -/
def execOpenMarker (l : LinkNo) (format : Fin 16) (stream : StreamNo) (n : Byte) (s : State) :
    Host.Outcome State Fault Refusal :=
  takeEvent s fun s =>
    if (s.feeder l).state = .up then
      match (s.feeder l).frame with
      | none => s.openFrame l format stream n
      | some f => ((s.truncateFrame l f).openFrame l format stream n).arbitrate
    else s

/-- R34 steps 1 to 3: cells received, parity failed and the CRC register. -/
def OpenFrame.countCell (f : OpenFrame) (payload : List Byte) : OpenFrame :=
  { f with
    cellsReceived := min (f.cellsReceived + 1) (Config.maxFrameCells + 1)
    parityFailed := f.parityFailed || cellParityFails payload
    crc := crcBytes f.crc (cellData payload) }

/-- The frame gives up its cells and is TRACKED (R34 overlength, R41 overrun). -/
def OpenFrame.giveUp (f : OpenFrame) : OpenFrame := { f with storage := .tracked, cells := [] }

/-- Replace the open frame context of a link. -/
def State.setFrame (s : State) (l : LinkNo) (f : OpenFrame) : State :=
  s.updateFeeder l fun x => { x with frame := some f }

/-- R40, R41: the reservation of one cell for a stored frame, or the overrun when no cell is free. -/
def State.reserveCell (s : State) (l : LinkNo) (f : OpenFrame) (data : List Byte) : State :=
  if 0 < s.freeCells then
    { s with freeCells := s.freeCells - 1 }.setFrame l { f with cells := f.cells ++ [data] }
  else
    ((s.returnCells f.cellsHeld).setFrame l { f.giveUp with overrun := true }).raisePart .overrun

/-- R34: a CELL marker of an open frame. -/
def State.takeCell (s : State) (l : LinkNo) (f : OpenFrame) (payload : List Byte) : State :=
  let g := f.countCell payload
  match g.storage with
  | .tracked => s.setFrame l g
  | .stored =>
    if g.cellsReceived ≤ Config.maxFrameCells then s.reserveCell l g (cellData payload)
    else (s.returnCells g.cellsHeld).setFrame l g.giveUp

/-- CELL_MARKER. On an UP link with no frame open the marker is stray (R30). -/
def execCellMarker (l : LinkNo) (payload : List Byte) (s : State) : Host.Outcome State Fault Refusal :=
  takeEvent s fun s =>
    if (s.feeder l).state = .up then
      match (s.feeder l).frame with
      | none => s
      | some f => s.takeCell l f payload
    else s

/-- FRAME_CLOSE: the receiver judges the frame and the Binding Controller takes the close (R36, R37). With no frame open
the marker is stray (R30). -/
def execFrameClose (l : LinkNo) (declared : Byte) (crc : BitVec 16) (s : State) : Host.Outcome State Fault Refusal :=
  takeEvent s fun s =>
    if (s.feeder l).state = .up then
      match (s.feeder l).frame with
      | none => s
      | some f => (s.takeClose (f.close l (!f.badAtClose declared crc) false)).arbitrate
    else s

/-- UNRECOGNISED_MARKER: "It is discarded, and it does not change the open frame context, the Cell Store, any counter or
any record" (R195). -/
def execUnrecognisedMarker (_l : LinkNo) (_bytes : List Byte) (s : State) : Host.Outcome State Fault Refusal :=
  takeEvent s fun s => s

/-- LINE_LOCK: a SEEKING link goes UP with no frame open, and LINK is raised (R29). -/
def execLineLock (l : LinkNo) (s : State) : Host.Outcome State Fault Refusal :=
  takeEvent s fun s =>
    if (s.feeder l).state = .seeking then
      (s.updateFeeder l fun f => { f with state := .up, frame := none }).raisePart .link
    else s

/-- R29: the link goes SEEKING, counts a lock loss and raises LINK. -/
def State.loseLock (s : State) (l : LinkNo) : State :=
  (s.updateFeeder l fun f => { f with state := .seeking, frame := none, lockLosses := satSucc f.lockLosses }).raisePart
    .link

/-- LOCK_LOSS: an open frame's truncated close first, then the link (R29, R35). -/
def execLockLoss (l : LinkNo) (s : State) : Host.Outcome State Fault Refusal :=
  takeEvent s fun s =>
    if (s.feeder l).state = .up then
      match (s.feeder l).frame with
      | none => s.loseLock l
      | some f => ((s.truncateFrame l f).loseLock l).arbitrate
    else s

end Sys2Proof.Machine
end

