-- ==== Sys2Proof/Machine/HostPort.lean ====
section
/-! DEFINITION. The host port family: STATUS_WINDOW_READ, COMMAND_WRITE, GO, IGNORED_WRITE, UNKNOWN_COMMAND, STATUS (R178
to R184, R199). -/

namespace Sys2Proof.Machine

/-- R179: the bytes that shift out, "from the window's first byte onward"; 00h for every byte past the end. -/
def captured (contents : List Byte) (length : Nat) : List Byte :=
  (List.range length).map fun i => contents.getD i 0#8

/-- STATUS_WINDOW_READ: a read transaction. It captures the window's contents and "changes nothing except COLLISION, which a
read of the STATUS window clears" (R179, log 7). -/
def execStatusWindowRead (address : BitVec 7) (length : Nat) (s : State) : Host.Outcome State Fault Refusal :=
  takeEvent s fun s =>
    let s' := { s with host.miso := some (captured (s.windowBytes address) length) }
    if address = windowStatus then { s' with host.collision := false } else s'

/-- R180: "The data bytes are written into the command block from its first byte onward ... Data bytes beyond the sixteenth
are discarded." -/
def overwrite (block : Vector Byte 16) (data : List Byte) : Vector Byte 16 :=
  Vector.ofFn fun i => data.getD i.val block[i]

/-- COMMAND_WRITE (R180). -/
def execCommandWrite (data : List Byte) (s : State) : Host.Outcome State Fault Refusal :=
  takeEvent s fun s =>
    if s.host.mailbox = .busy then { s with host.collision := true }
    else { s with host.command := overwrite s.host.command data }

/-- GO (R181), "whatever data bytes it carries" (R180). -/
def execGo (_data : List Byte) (s : State) : Host.Outcome State Fault Refusal :=
  takeEvent s fun s =>
    if s.host.mailbox = .busy then { s with host.collision := true } else { s with host.mailbox := .busy }

/-- IGNORED_WRITE: "is ignored and does not set COLLISION" (R180). -/
def execIgnoredWrite (_address : BitVec 7) (_data : List Byte) (s : State) : Host.Outcome State Fault Refusal :=
  takeEvent s fun s => s

/-- UNKNOWN_COMMAND: the command event of a code that names no command (R183). -/
def execUnknownCommand (s : State) : Host.Outcome State Fault Refusal :=
  takeEvent s fun s =>
    if s.host.mailbox = .busy ∧ knownCode (s.operand 0) = false then s.refuse .unknownCommand else s

/-- R199: bytes 8 to 15 of the command block are overwritten, bytes 0 to 7 keep their values. -/
def State.writeTiming (s : State) : State :=
  { s with host.command := Vector.ofFn fun i =>
      if i.val < 8 then s.host.command[i] else s.timingAndSweepBytes.getD (i.val - 8) 0#8 }

/-- STATUS, code 01h (R184, R199). The report stands before the clearing of the four trunk counters. -/
def execStatus (s : State) : Host.Outcome State Fault Refusal :=
  commandEvent s 0x01#8 fun s =>
    match flagOperand (s.operand 1) with
    | none => s.refuse .range
    | some clear =>
      let s := (s.post .ok s.statusBytes).writeTiming
      if clear then { s with counters := TrunkCounters.zero } else s

end Sys2Proof.Machine
end

