-- ==== Sys2Proof/Machine/HostRecords.lean ====
section
/-! DEFINITION. Host commands on records and tags: READ_RECORD, LOOKUP_KEY, LOOKUP_TAG, PROVISION, MODIFY, RETIRE,
RELEASE_TAG (R20 to R23, R58 to R60, R75, R81, R121, R185 to R188). -/

namespace Sys2Proof.Machine

/-! ### Reading records -/

/-- R20, R21: the snapshot is posted, and with the clear flag the record's counters are then set to 0. -/
def State.postSnapshot (s : State) (b : BindingNo) (clear : Bool) : State :=
  let s := s.post .ok (s.snapshot b)
  if clear then s.updateRecord b BindingRecord.clearCounters else s

/-- READ_RECORD, code 02h (R185). -/
def execReadRecord (s : State) : Host.Outcome State Fault Refusal :=
  commandEvent s 0x02#8 fun s =>
    match below 48 (s.operand 1), flagOperand (s.operand 2) with
    | some b, some clear => s.postSnapshot b clear
    | _, _ => s.refuse .range

/-- R22: the active record holding the key, else the lowest RETIRED record showing it. -/
def State.lookupKey (s : State) (k : Key) : Option BindingNo := (s.resolveKey k).or (s.retiredShowing k)

/-- LOOKUP_KEY, code 03h (R22, R185). -/
def execLookupKey (s : State) : Host.Outcome State Fault Refusal :=
  commandEvent s 0x03#8 fun s =>
    match below 8 (s.operand 1), below 16 (s.operand 2), flagOperand (s.operand 3) with
    | some l, some n, some clear =>
      match s.lookupKey ⟨l, n⟩ with
      | some b => s.postSnapshot b clear
      | none => s.refuse .noRecord
    | _, _, _ => s.refuse .range

/-- LOOKUP_TAG, code 04h (R22, R185). -/
def execLookupTag (s : State) : Host.Outcome State Fault Refusal :=
  commandEvent s 0x04#8 fun s =>
    match tagOperand (s.operand 1), flagOperand (s.operand 2) with
    | some t, some clear =>
      match s.tagEntry t with
      | .held b => s.postSnapshot b clear
      | .free _ | .stranded _ => s.refuse .noRecord
    | _, _ => s.refuse .range

/-! ### PROVISION -/

/-- The values of a provisioned record at its creation (R58, Table 3-C), less the tag and the lease. -/
def BindingRecord.provisionedAs (k : Key) (c : ClassNo) (pinned : Bool) : BindingRecord :=
  { BindingRecord.free with state := .candidate, origin := .provisioned, pinned := pinned, cls := c, key := k }

/-- R58, R59: the creation of a provisioned record, with its fixed tag taken out of the free list. -/
def State.createProvisioned (s : State) (b : BindingNo) (k : Key) (c : ClassNo) (pinned : Bool) (t : Option Tag) :
    State :=
  let s := s.updateRecord b fun _ => BindingRecord.provisionedAs k c pinned
  let s := s.startLease b
  match t with
  | some t => s.holdTag b t
  | none => s

/-- R75: why a fixed tag cannot be taken out, if it cannot. -/
def State.takeOutRefusal (s : State) (t : Option Tag) : Option Result :=
  match t with
  | none => none
  | some t =>
    match s.tagEntry t with
    | .free _ => if s.tagReady t then none else some .tagNotReady
    | .held _ | .stranded _ => some .tagNotFree

/-- R186: the conditions of a PROVISION, in their order, and its effect. -/
def State.provisionWith (s : State) (k : Key) (c : ClassNo) (pinned : Bool) (t : Option Tag) : State :=
  match s.resolveKey k, s.lowestFree, s.takeOutRefusal t with
  | some _, _, _ => s.refuse .keyExists
  | none, none, _ => s.refuse .tableFull
  | none, some _, some r => s.refuse r
  | none, some b, none => (s.createProvisioned b k c pinned t).post .ok [byteOf b.val]

/-- PROVISION, code 05h (R58, R186). -/
def execProvision (s : State) : Host.Outcome State Fault Refusal :=
  commandEvent s 0x05#8 fun s =>
    match below 8 (s.operand 1), below 16 (s.operand 2), below 4 (s.operand 3), flagOperand (s.operand 4),
      fixedTagOperand (s.operand 5) with
    | some l, some n, some c, some pinned, some t => s.provisionWith ⟨l, n⟩ c pinned t
    | _, _, _, _, _ => s.refuse .range

/-! ### MODIFY, RETIRE, RELEASE TAG -/

/-- R187: what a MODIFY response carries. -/
def State.modifyBytes (s : State) (b : BindingNo) : List Byte :=
  let r := s.record b
  [byteOf b.val, byteOf r.cls.val, byteOf (flagNat r.pinned), byteOf r.state.code]

/-- MODIFY, code 06h (R23, R187). -/
def execModify (s : State) : Host.Outcome State Fault Refusal :=
  commandEvent s 0x06#8 fun s =>
    match below 48 (s.operand 1), below 4 (s.operand 2), flagOperand (s.operand 3) with
    | some b, some c, some pinned =>
      match (s.record b).state with
      | .free => s.refuse .noRecord
      | .retired => s.refuse .badState
      | _ =>
        let s := s.updateRecord b fun r => { r with cls := c, pinned := pinned }
        s.post .ok (s.modifyBytes b)
    | _, _, _ => s.refuse .range

/-- R187: what a RETIRE response carries. -/
def State.retireBytes (s : State) (b : BindingNo) : List Byte := [byteOf b.val, byteOf (s.record b).state.code]

/-- RETIRE, code 07h (R121, R187). -/
def execRetire (s : State) : Host.Outcome State Fault Refusal :=
  commandEvent s 0x07#8 fun s =>
    match below 48 (s.operand 1) with
    | none => s.refuse .range
    | some b =>
      match (s.record b).state with
      | .free => s.refuse .noRecord
      | .retired => s.refuse .badState
      | .retiring => s.post .already (s.retireBytes b)
      | _ =>
        let s' := ((s.beginRetirement b .host).grantIfReleased s).arbitrate
        s'.post .ok (s'.retireBytes b)

/-- RELEASE_TAG, code 08h (R81, R188). -/
def execReleaseTag (s : State) : Host.Outcome State Fault Refusal :=
  commandEvent s 0x08#8 fun s =>
    match tagOperand (s.operand 1) with
    | none => s.refuse .range
    | some t =>
      match s.tagEntry t with
      | .stranded _ =>
        let s' := ((s.releaseTag t).grantIfReleased s).arbitrate
        s'.post .ok [byteOf t.number, byteOf s'.tags.strandedCount]
      | .free _ | .held _ => s.refuse .badState

end Sys2Proof.Machine
end

