-- ==== Sys2Proof/Machine/Session.lean ====
section
/-! DEFINITION. The trunk session and its notices: purge, session loss, HELLO issue, entry to RESYNC, and the outcomes of
a window entry and of a late reply (R79 to R82, R114, R138, R139, R147, R151, R152, R157 to R163). -/

namespace Sys2Proof.Machine

/-! ### Purge and cut-off (R138, R139) -/

/-- The descriptor's record loses it unsent: in-flight falls by 1 and withheld rises by 1 (R138, R139). -/
def State.dropFromRecord (s : State) (b : Option BindingNo) : State :=
  match b with
  | some b => s.updateRecord b fun r => { r with inFlight := r.inFlight - 1, withheld := satSucc r.withheld }
  | none => s

/-- One descriptor removed unsent: its cells return and frames purged rises by 1 (R138, R139). -/
def State.dropDescriptor (s : State) (d : Descriptor) : State :=
  let s := s.returnCells d.cellCount
  let s := s.dropFromRecord d.binding
  { s with counters.framesPurged := satSucc s.counters.framesPurged }

/-- R139: every descriptor not in transmission is removed, oldest first. -/
def State.purge (s : State) : State :=
  let removed := s.trunk.queue.filter fun d => !d.inTransmission
  let s := { s with trunk.queue := s.trunk.queue.filter (·.inTransmission) }
  removed.foldl State.dropDescriptor s

/-- The descriptor in transmission (R129). -/
def State.sending (s : State) : Option Descriptor := s.trunk.queue.find? (·.inTransmission)

/-- The egress queue without the descriptor in transmission. -/
def State.removeSending (s : State) : State :=
  { s with trunk.queue := s.trunk.queue.eraseP (·.inTransmission) }

/-- R138: an item in transmission is cut off; the output is IDLE (R132). A cut-off notice or HELLO counts as transmitted
already, since its count rose at its begin. -/
def State.cutOff (s : State) : State :=
  let s' := match s.trunk.output with
    | .busy .data _ =>
      match s.sending with
      | some d => s.removeSending.dropDescriptor d
      | none => s
    | _ => s
  { s' with trunk.output := .idle }

/-! ### Session loss (R152, Table 8-B) -/

/-- The phase of a notice that waited to be sent or answered when the session was lost: DRAIN while descriptors are in
flight, AWAIT_SESSION otherwise (Table 8-B). -/
def BindingRecord.lossPhase (r : BindingRecord) : NoticePhase :=
  match r.phase with
  | .drain => if 0 < r.inFlight then .drain else .awaitSession
  | _ => .awaitSession

/-- R152 steps 3 and 4: the announced flag becomes no, and the record moves as Table 8-B gives, with the in-flight count
as the purge left it. -/
def BindingRecord.atSessionLoss (r : BindingRecord) : BindingRecord :=
  let r := { r with announced := false }
  match r.state with
  | .live =>
    { r with
      state := .announcing, lease := none, run := 0, consecutiveBad := 0, trial := none,
      phase := if 0 < r.inFlight then .drain else .awaitSession }
  | .announcing => { r with phase := r.lossPhase }
  | .retiring => { r with phase := r.lossPhase, bindPending := false }
  | .free | .candidate | .tagWait | .suspended | .silent | .retired => r

/-- R152: session loss, into RESYNC or CLOSED. -/
def State.sessionLoss (s : State) (target : Session) : State :=
  let s := s.purge
  let s := { s with trunk.credit := 0 }
  let s := { s with notice.window := [], notice.retransmit := [], notice.owed := [] }
  let s := { s with records := s.records.map BindingRecord.atSessionLoss }
  let s := { s with notice.session := target }
  s.raisePart .session

/-- R147: a HELLO is issued. -/
def State.issueHello (s : State) : State :=
  { s with notice.number := s.notice.number + 1, notice.hello := some ⟨0, none, true⟩ }

/-- R151: the entry to RESYNC from UP. -/
def State.enterResync (s : State) : State := (s.sessionLoss .resync).issueHello

/-! ### Outcomes of a window entry -/

/-- The entry leaves the window with its timer, and is due no longer (R157, R159, R160). -/
def State.removeEntry (s : State) (q : Byte) : State :=
  { s with
    notice.window := s.notice.window.filter fun e => e.seq != q
    notice.retransmit := s.notice.retransmit.erase q }

/-- R79 steps 1 to 3: the tag is stranded. -/
def State.strandTag (s : State) (b : BindingNo) (t : Tag) (q : Byte) : State :=
  let s := s.setTagEntry t (.stranded q)
  let s := s.updateRecord b fun r => { r with tag := none }
  let s := { s with tags.strandedCount := s.tags.strandedCount + 1 }
  s.raisePart .tagStranded

/-- R157 with R79 and R80: the exhaustion of an UNBIND strands its tag and completes its record with the stranded note,
and enters RESYNC when the stranded count meets the threshold. -/
def State.exhaustUnbind (s : State) (e : WindowEntry) : State :=
  let s := s.removeEntry e.seq
  let s := s.strandTag e.binding e.tag e.seq
  let s := s.updateRecord e.binding fun r => { r with strandedNote := true }
  let s := s.completeRetirement e.binding
  if s.tags.strandedThreshold ≤ s.tags.strandedCount then s.enterResync else s

/-- R157: the exhaustion of an entry, by its kind. -/
def State.exhaust (s : State) (e : WindowEntry) : State :=
  match e.kind with
  | .bind => s.enterResync
  | .unbind => s.exhaustUnbind e

/-- The entry becomes due: its timer stops and it takes its place in the order of retransmissions (R155, R157, R161). An
entry that is due already keeps its place. -/
def State.makeDue (s : State) (q : Byte) : State :=
  let s := s.updateEntry q fun e => { e with timer := none }
  if q ∈ s.notice.retransmit then s
  else { s with notice.retransmit := s.notice.retransmit ++ [q] }

/-- R157, R161: a timeout of the entry, by its transmission count. -/
def State.timeoutEntry (s : State) (e : WindowEntry) : State :=
  if e.count < Config.maxTransmissions then s.makeDue e.seq else s.exhaust e

/-- R114: the UNBIND of a RETIRING record is owed once its outstanding BIND is answered. -/
def State.answerBindPending (s : State) (b : BindingNo) : State :=
  let s := s.updateRecord b fun r => { r with bindPending := false }
  s.oweNotice b

/-- R159: a reply acknowledges an entry. -/
def State.acknowledge (s : State) (e : WindowEntry) : State :=
  let s := s.removeEntry e.seq
  match e.kind with
  | .unbind => (s.releaseTag e.tag).completeRetirement e.binding
  | .bind =>
    match (s.record e.binding).state with
    | .announcing => s.enterLive e.binding
    | .retiring =>
      let s := s.updateRecord e.binding fun r => { r with announced := true }
      s.answerBindPending e.binding
    | _ => s

/-- R160, R114: a BIND refused with NO_ROOM. A refused first BIND releases the tag and completes the record; a refused
re-BIND owes the UNBIND. -/
def State.refuseBind (s : State) (e : WindowEntry) : State :=
  let s := s.removeEntry e.seq
  let r := s.record e.binding
  match r.state, r.announced with
  | .announcing, false =>
    let s := s.updateRecord e.binding fun r => { r with cause := some .refused }
    (s.releaseTag e.tag).completeRetirement e.binding
  | .announcing, true =>
    let s := s.updateRecord e.binding fun r => r.retiring .refused
    s.oweNotice e.binding
  | .retiring, false =>
    let s := s.updateRecord e.binding fun r => { r with bindPending := false }
    (s.releaseTag e.tag).completeRetirement e.binding
  | .retiring, true => s.answerBindPending e.binding
  | _, _ => s

/-! ### Late and stray replies (R82, R163) -/

/-- The STRANDED tags that hold a sequence number as last sequence number, ascending (R82). -/
def State.strandedWith (s : State) (q : Byte) : List Tag :=
  (List.finRange 31).filter fun t => s.tagEntry t == .stranded q

/-- R163, R150: a stray reply raises the stray replies counter and changes nothing else. -/
def State.countStray (s : State) : State :=
  { s with counters.strayReplies := satSucc s.counters.strayReplies }

/-- R82: a late ACK or NAK UNKNOWN_TAG releases the one STRANDED tag that holds its number; every other late reply is
stray. -/
def State.lateReply (s : State) (confirms : Bool) (q : Byte) : State :=
  match confirms, s.strandedWith q with
  | true, [t] => s.releaseTag t
  | _, _ => s.countStray

end Sys2Proof.Machine
end

