-- ==== Sys2Proof/Machine/HostSettings.lean ====
section
/-! DEFINITION. Host commands on classes, links, timing, enables and the session: SET_CLASS, SET_LINK, READ_LINK, SET_TIMING,
SET_ATTENTION_ENABLES, TRUNK_OPEN, TRUNK_CLOSE (R11, R28, R31, R44, R69, R123, R146, R171, R188 to R191). -/

namespace Sys2Proof.Machine

/-- SET_CLASS, code 0Bh (R11, R188). -/
def execSetClass (s : State) : Host.Outcome State Fault Refusal :=
  commandEvent s 0x0B#8 fun s =>
    match s.classOperands with
    | none => s.refuse .range
    | some (c, p) => { s with classes := s.classes.set c p }.post .ok []

/-! ### Links -/

/-- R28: ENABLE takes a DISABLED link to SEEKING. -/
def State.enableLink (s : State) (l : LinkNo) : State :=
  if (s.feeder l).state = .disabled then
    (s.updateFeeder l fun f => { f with state := .seeking }).raisePart .link
  else s

/-- R31 step 1: an open frame is abandoned and its cells return. -/
def State.abandonFrame (s : State) (l : LinkNo) : State :=
  match (s.feeder l).frame with
  | some f => (s.returnCells f.cellsHeld).updateFeeder l fun x => { x with frame := none }
  | none => s

/-- R31 step 2: the link goes DISABLED, and LINK is raised if it was enabled. -/
def State.switchOff (s : State) (l : LinkNo) : State :=
  if (s.feeder l).state = .disabled then s
  else (s.updateFeeder l fun f => { f with state := .disabled }).raisePart .link

/-- R31 step 3, R123: the records whose retirement a DISABLE begins, in ascending binding number. -/
def State.linkRecords (s : State) (l : LinkNo) : List BindingNo :=
  allBindings.filter fun b =>
    (s.record b).key.link == l && (s.record b).state.active && (s.record b).state != .retiring

/-- R31: DISABLE, as one event. -/
def State.disableLink (s : State) (l : LinkNo) : State :=
  let s' := (s.abandonFrame l).switchOff l
  (s'.linkRecords l).foldl (fun s b => s.beginRetirement b .linkOff) s'

/-- SET_LINK, code 0Ch (R28, R189). The response counts the retirements the event began. -/
def execSetLink (s : State) : Host.Outcome State Fault Refusal :=
  commandEvent s 0x0C#8 fun s =>
    match below 8 (s.operand 1), flagOperand (s.operand 2), below 4 (s.operand 3) with
    | some l, some enable, some c =>
      let s1 := s.updateFeeder l fun f => { f with defaultClass := c }
      let s' := if enable then s1.enableLink l else ((s1.disableLink l).grantIfReleased s).arbitrate
      s'.post .ok [byteOf (s'.feeder l).state.code, byteOf (if enable then 0 else (s.linkRecords l).length)]
    | _, _, _ => s.refuse .range

/-- R44: the six link counters set to 0. -/
def FeederLink.clearCounters (f : FeederLink) : FeederLink :=
  { f with framesSeen := 0, badFrames := 0, overruns := 0, refused := 0, discarded := 0, lockLosses := 0 }

/-- READ_LINK, code 0Dh (R44, R189). -/
def execReadLink (s : State) : Host.Outcome State Fault Refusal :=
  commandEvent s 0x0D#8 fun s =>
    match below 8 (s.operand 1), flagOperand (s.operand 2) with
    | some l, some clear =>
      let s := s.post .ok (linkBytes l (s.feeder l))
      if clear then s.updateFeeder l FeederLink.clearCounters else s
    | _, _ => s.refuse .range

/-! ### Timing and enables -/

/-- R69: the Tag Manager takes a new hold-off. A hold-off expiry that stands to be taken stands on, so that the grant event
of a hold-off left unchanged or raised "finds no ready head while records wait"; a lowered one grants in the SET TIMING
itself, and withdraws it (log 3). -/
def TagManager.setHoldOff (m : TagManager) (holdOff : Nat) : TagManager :=
  { m with holdOff := holdOff, holdOffDue := m.holdOffDue && decide (m.holdOff ≤ holdOff) }

/-- SET_TIMING, code 0Eh: the three settings are written in one event, which is also a grant event taken after they are in
place (R69, R188). -/
def execSetTiming (s : State) : Host.Outcome State Fault Refusal :=
  commandEvent s 0x0E#8 fun s =>
    match within 1 255 (s.operand 1).toNat, within 0 1023 (word16 (s.operand 2) (s.operand 3)).toNat,
      within 1 8 (s.operand 4).toNat with
    | some timeout, some holdOff, some threshold =>
      let s := { s with
        notice.timeout := timeout, tags := { s.tags.setHoldOff holdOff with strandedThreshold := threshold } }
      s.grantEvent.arbitrate.post .ok []
    | _, _, _ => s.refuse .range

/-- SET_ATTENTION_ENABLES, code 0Fh: "the mask is replaced as a whole" (R171, R190). -/
def execSetAttentionEnables (s : State) : Host.Outcome State Fault Refusal :=
  commandEvent s 0x0F#8 fun s =>
    match recordMaskOperand (s.operand 1), partMaskOperand (s.operand 2) with
    | some r, some p => { s with attention.recordEnables := r, attention.partEnables := p }.post .ok []
    | _, _ => s.refuse .range

/-! ### The session (R146, R191) -/

/-- TRUNK_OPEN, code 10h. -/
def execTrunkOpen (s : State) : Host.Outcome State Fault Refusal :=
  commandEvent s 0x10#8 fun s =>
    match s.notice.session with
    | .closed =>
      let s' := (({ s with notice.session := .opening }.issueHello).raisePart .session).arbitrate
      s'.post .ok s'.sessionBytes
    | .opening | .up | .resync | .failed => s.refuse .sessionState

/-- R146: TRUNK CLOSE from OPENING, UP or RESYNC is session loss, and the hello slot is emptied. -/
def State.closeSession (s : State) : State := { s.sessionLoss .closed with notice.hello := none }

/-- R146: TRUNK CLOSE from FAILED. The change of session state raises SESSION (R145, log 12). -/
def State.closeFailed (s : State) : State := { s with notice.session := .closed }.raisePart .session

/-- TRUNK_CLOSE, code 11h. -/
def execTrunkClose (s : State) : Host.Outcome State Fault Refusal :=
  commandEvent s 0x11#8 fun s =>
    match s.notice.session with
    | .closed => s.post .already s.sessionBytes
    | .failed =>
      let s := s.closeFailed
      s.post .ok s.sessionBytes
    | .opening | .up | .resync =>
      let s := s.closeSession.arbitrate
      s.post .ok s.sessionBytes

end Sys2Proof.Machine
end

