-- ==== Sys2Proof/Machine/Trunk.lean ====
section
/-! DEFINITION. The trunk family: SEND_COMPLETION, NOTICE_END, LINE_UP, LINE_DOWN, CREDIT, DISCARDED_RETURN_MESSAGE
(R132, R133, R136 to R138, R148, R153, R157, R197). -/

namespace Sys2Proof.Machine

/-- "While the line is DOWN ... nothing arrives on the return path" (R132). -/
def returnEvent (s : State) (f : State → State) : Host.Outcome State Fault Refusal :=
  takeEvent s fun s => if s.line = .up then f s else s

/-! ### The end of an item -/

/-- R137 steps 3 and 4: the record's in-flight count falls by 1, and a notice in DRAIN moves on at 0. -/
def State.completeInFlight (s : State) (b : Option BindingNo) : State :=
  match b with
  | some b => (s.updateRecord b fun r => { r with inFlight := r.inFlight - 1 }).moveDrained b
  | none => s

/-- R137 steps 1 to 4. -/
def State.completeSend (s : State) (d : Descriptor) : State :=
  let s := s.removeSending.returnCells d.cellCount
  let s := { s with counters.framesSent := satSucc s.counters.framesSent }
  s.completeInFlight d.binding

/-- The descriptor in transmission, while the output is BUSY with a DATA frame (R129). -/
def State.sendingItem (s : State) : Option Descriptor :=
  match s.trunk.output with
  | .busy .data _ => s.sending
  | _ => none

/-- SEND_COMPLETION (R137). -/
def execSendCompletion (s : State) : Host.Outcome State Fault Refusal :=
  takeEvent s fun s =>
    match s.sendingItem with
    | some d =>
      let s' := (s.completeSend d).grantIfReleased s
      { s' with trunk.output := .idle }.arbitrate
    | none => s

/-- R148, R157: the end of a notice or HELLO starts its timer at the notice timeout in force. The end of a notice whose
entry has left the window or is due again, or of a HELLO that no longer stands in the slot, moves nothing (R148, R157,
R161, R162, log 19). -/
def State.startTimer (s : State) (i : TxItem) : State :=
  match i with
  | .data => s
  | .notice q =>
    if q ∈ s.notice.retransmit then s
    else s.updateEntry q fun e => { e with timer := some s.notice.timeout }
  | .hello =>
    { s with notice.hello := s.notice.hello.map fun h => if h.due then h else { h with timer := some s.notice.timeout } }

/-- NOTICE_END (R136). -/
def execNoticeEnd (s : State) : Host.Outcome State Fault Refusal :=
  takeEvent s fun s =>
    match s.trunk.output with
    | .busy (.notice q) _ => { s.startTimer (.notice q) with trunk.output := .idle }.arbitrate
    | .busy .hello _ => { s.startTimer .hello with trunk.output := .idle }.arbitrate
    | .busy .data _ => s
    | .idle => s

/-! ### The trunk line -/

/-- R153: at line-up the timer of a HELLO sent four times and cut off starts afresh. -/
def State.helloAtLineUp (s : State) : State :=
  { s with notice.hello := s.notice.hello.map fun h =>
      if h.due then h else { h with timer := some s.notice.timeout } }

/-- LINE_UP (R132, R153). -/
def execLineUp (s : State) : Host.Outcome State Fault Refusal :=
  takeEvent s fun s =>
    if s.line = .down then { s.helloAtLineUp with line := .up }.arbitrate else s

/-- R153: at line-down in OPENING or RESYNC the HELLO timer stops, and a HELLO of count below 4 becomes due. -/
def State.helloAtLineDown (s : State) : State :=
  { s with notice.hello := s.notice.hello.map fun h =>
      { h with timer := none, due := decide (h.count < Config.maxTransmissions) } }

/-- Table 8-C: how the line-down event reaches the session. -/
def State.sessionLineDown (s : State) : State :=
  match s.notice.session with
  | .up => s.enterResync
  | .opening | .resync => s.helloAtLineDown
  | .closed | .failed => s

/-- The record whose DATA frame is in transmission. -/
def State.sendingRecord (s : State) : Option BindingNo := s.sendingItem.bind (·.binding)

/-- LINE_DOWN (R132, R138, R153): cut-off, the line, the session, and then a notice the cut-off drained moves on with the
session as every other effect leaves it. -/
def execLineDown (s : State) : Host.Outcome State Fault Refusal :=
  takeEvent s fun s =>
    if s.line = .up then
      let b := s.sendingRecord
      let s := { s.cutOff with line := .down }.sessionLineDown
      match b with
      | some b => s.moveDrained b
      | none => s
    else s

/-! ### The return path -/

/-- CREDIT (R133): the increment is added and the sum saturates at 4095. An increment above 4095 does not pass the check of
R197. -/
def execCredit (increment : BitVec 16) (s : State) : Host.Outcome State Fault Refusal :=
  returnEvent s fun s =>
    if increment.toNat ≤ Config.maxCredit then
      { s with trunk.credit := min (s.trunk.credit + increment.toNat) Config.maxCredit }.arbitrate
    else s

/-- DISCARDED_RETURN_MESSAGE: "It changes no state and is counted on no counter" (R197). -/
def execDiscardedReturnMessage (_bytes : List Byte) (s : State) : Host.Outcome State Fault Refusal :=
  returnEvent s fun s => s

end Sys2Proof.Machine
end

