-- ==== Sys2Proof/Machine/Replies.lean ====
section
/-! DEFINITION. The replies of the receiver: HELLO_ACK, ACK, NAK, RESYNC_REQUEST (R149 to R151, R158 to R163). -/

namespace Sys2Proof.Machine

/-! ### HELLO-ACK (R149) -/

/-- A RETIRING record whose notice phase is AWAIT_SESSION (R78). -/
def BindingRecord.awaitsRelease (r : BindingRecord) : Bool := r.state == .retiring && r.phase == .awaitSession

/-- R78: whether the HELLO-ACK releases a tag: STRANDED, or HELD by a RETIRING record in AWAIT_SESSION. -/
def State.releasedAtHelloAck (s : State) (t : Tag) : Bool :=
  match s.tagEntry t with
  | .stranded _ => true
  | .held b => (s.record b).awaitsRelease
  | .free _ => false

/-- R149 step 4: whether the record's tag is released in step 3. -/
def State.completesAtHelloAck (s : State) (b : BindingNo) : Bool :=
  (s.record b).awaitsRelease &&
    match (s.record b).tag with
    | some t => s.tagEntry t == .held b
    | none => false

/-- R149 step 5: an ANNOUNCING record whose notice phase is AWAIT_SESSION. -/
def State.owedAtHelloAck (s : State) (b : BindingNo) : Bool :=
  (s.record b).state == .announcing && (s.record b).phase == .awaitSession

/-- R149 steps 1 to 7. -/
def State.openSession (s : State) : State :=
  let tags := (List.finRange 31).filter s.releasedAtHelloAck
  let completing := allBindings.filter s.completesAtHelloAck
  let s1 := { s with notice.session := .up, notice.hello := none, trunk.credit := 0 }
  let s2 := tags.foldl State.releaseTag s1
  let s3 := completing.foldl State.completeRetirement s2
  let s4 := (allBindings.filter s3.owedAtHelloAck).foldl State.oweNotice s3
  let s5 := s4.grantIfReleased s
  s5.raisePart .session

/-- HELLO_ACK: of the current number in OPENING or RESYNC it brings the session UP (R149); any other is stray (R150). -/
def execHelloAck (number : Byte) (s : State) : Host.Outcome State Fault Refusal :=
  returnEvent s fun s =>
    if number = s.notice.number ∧ (s.notice.session = .opening ∨ s.notice.session = .resync) then
      s.openSession.arbitrate
    else s.countStray

/-! ### Replies to notices (R158) -/

/-- ACK (R158, R159, R163). -/
def execAck (q : Byte) (s : State) : Host.Outcome State Fault Refusal :=
  returnEvent s fun s =>
    match s.windowEntry q with
    | some e => ((s.acknowledge e).grantIfReleased s).arbitrate
    | none => ((s.lateReply true q).grantIfReleased s).arbitrate

/-- Table 8-D: what a NAK does to the entry it answers. -/
def State.nakEntry (s : State) (e : WindowEntry) (r : NakReason) : State :=
  match e.kind, r with
  | .bind, .noRoom => s.refuseBind e
  | .unbind, .unknownTag => s.acknowledge e
  | .bind, .unknownTag | .bind, .malformed | .unbind, .noRoom | .unbind, .malformed => s.timeoutEntry e

/-- NAK (R158, R160, R161, R163). Of the late ones only UNKNOWN_TAG can release a stranded tag (R82). -/
def execNak (q : Byte) (r : NakReason) (s : State) : Host.Outcome State Fault Refusal :=
  returnEvent s fun s =>
    match s.windowEntry q with
    | some e => ((s.nakEntry e r).grantIfReleased s).arbitrate
    | none => ((s.lateReply (r == .unknownTag) q).grantIfReleased s).arbitrate

/-- RESYNC_REQUEST: taken while UP it enters RESYNC (R151); otherwise it is discarded and counted nowhere (R150). -/
def execResyncRequest (s : State) : Host.Outcome State Fault Refusal :=
  returnEvent s fun s => if s.notice.session = .up then s.enterResync.arbitrate else s

end Sys2Proof.Machine
end

