-- ==== Sys2Proof/Machine/Resets.lean ====
section
/-! DEFINITION. The reset family: RESTART, RESET_ASSERTION, POWER_ON_RESET (R26, R46, R85, R128, R144, R166, R177, R193,
R194). -/

namespace Sys2Proof.Machine

/-- R46: a link keeps its state and default class, its frame is abandoned, and its counters are 0. -/
def FeederLink.restarted (f : FeederLink) : FeederLink :=
  { FeederLink.initial with state := f.state, defaultClass := f.defaultClass }

/-- R85: every tag FREE and ready again; the hold-off and the stranded threshold are kept. -/
def TagManager.restarted (t : TagManager) : TagManager :=
  { TagManager.initial with holdOff := t.holdOff, strandedThreshold := t.strandedThreshold }

/-- R144: a descriptor in transmission stays, and its binding number becomes none. -/
def restartedQueue (q : List Descriptor) : List Descriptor :=
  (q.filter (·.inTransmission)).map fun d => { d with binding := none }

/-- R144: the Transmitter's RESTART. The item in transmission goes on. -/
def Transmitter.restarted (t : Transmitter) : Transmitter :=
  { t with queue := restartedQueue t.queue, credit := 0 }

/-- R166: the Notice Unit's RESTART keeps the notice timeout. -/
def NoticeUnit.restarted (n : NoticeUnit) : NoticeUnit := { NoticeUnit.initial with timeout := n.timeout }

/-- R177: the Attention Unit's RESTART keeps the enable mask. -/
def AttentionUnit.restarted (a : AttentionUnit) : AttentionUnit :=
  { AttentionUnit.initial with recordEnables := a.recordEnables, partEnables := a.partEnables }

/-- The cells of the descriptors of a queue (R39). -/
def queueCells (q : List Descriptor) : Nat := (q.map Descriptor.cellCount).sum

/-- R193: every block takes its RESTART values in one event. "The free-cell count after RESTART is therefore 1536, less the
cells of the DATA frame in transmission if one is being sent" (R46). -/
def State.restarted (s : State) : State :=
  { s with
    records := Vector.replicate 48 BindingRecord.free
    feeders := s.feeders.map FeederLink.restarted
    freeCells := Config.cellStoreSize - queueCells (restartedQueue s.trunk.queue)
    tags := s.tags.restarted
    trunk := s.trunk.restarted
    counters := TrunkCounters.zero
    notice := s.notice.restarted
    sweep := SweepEngine.initial
    attention := s.attention.restarted
    host.collision := false }

/-- RESTART, code 14h (R193). The command block keeps its contents. -/
def execRestart (s : State) : Host.Outcome State Fault Refusal :=
  commandEvent s 0x14#8 fun s => s.restarted.post .ok []

/-- RESET_ASSERTION: an SPI transaction is abandoned and MISO undriven, ATTN is released (`State.attnLow`), and the part
takes no event until the release (R194). -/
def execResetAssertion (s : State) : Host.Outcome State Fault Refusal :=
  .next { s with resetAsserted := true, host.miso := none }

/-- POWER_ON_RESET: at the release of RESET, or when power has come up, "every block takes its power-on values in one event"
(R194). Events that wait outside the part wait on. -/
def execPowerOnReset (s : State) : Host.Outcome State Fault Refusal :=
  .next { State.reset with pending := s.pending }

end Sys2Proof.Machine
end

