-- ==== Sys2Proof/Machine/Sweeps.lean ====
section
/-! DEFINITION. The sweep family: SWEEP_VISIT, SWEEP, ABORT_SWEEP (R124 to R127, R192). -/

namespace Sys2Proof.Machine

/-- R125 step 1: a record matches a filter. "A FREE record matches no filter." -/
def SweepJob.matches (j : SweepJob) (r : BindingRecord) : Bool :=
  r.state != .free && j.states.getLsbD r.state.code &&
    (match j.link with | some l => r.key.link == l | none => true) &&
    (match j.cls with | some c => r.cls == c | none => true) &&
    (!r.pinned || j.pinnedIncluded)

/-- R126: whether the action acts on a matching record in a state. -/
def SweepAction.acts : SweepAction → RecordState → Bool
  | .retire, st => st.active && st != .retiring
  | .clearCounters, _ => true
  | .freeReports, st => st == .retired

/-- R126: the action on a matching record. -/
def State.sweepAct (s : State) (b : BindingNo) : SweepAction → State
  | .retire => s.beginRetirement b .sweep
  | .clearCounters => s.updateRecord b BindingRecord.clearCounters
  | .freeReports => if (s.record b).state = .retired then s.goFree b else s

/-- R125 step 2: the test of the record at the cursor, the counts and the action. -/
def State.sweepTest (s : State) (j : SweepJob) (b : BindingNo) : State :=
  if j.matches (s.record b) then
    let acts := j.action.acts (s.record b).state
    let s := { s with
      sweep.matched := s.sweep.matched + 1
      sweep.acted := if acts then s.sweep.acted + 1 else s.sweep.acted }
    s.sweepAct b j.action
  else s

/-- R125 step 3, R127: the cursor rises, and a visit that raises it to 48 ends the sweep. -/
def State.sweepAdvance (s : State) : State :=
  let s := { s with sweep.cursor := s.sweep.cursor + 1 }
  if s.sweep.cursor = Config.sweepEnd then { s with sweep.running := false }.raisePart .sweepDone else s

/-- SWEEP_VISIT (R125 to R127). A visit arises while a sweep runs (log 5). -/
def execSweepVisit (s : State) : Host.Outcome State Fault Refusal :=
  takeEvent s fun s =>
    if s.sweep.running then
      match s.sweep.job with
      | some j =>
        if h : s.sweep.cursor < 48 then
          (((s.sweepTest j ⟨s.sweep.cursor, h⟩).sweepAdvance).grantIfReleased s).arbitrate
        else s
      | none => s
    else s

/-- SWEEP, code 12h (R124, R192). -/
def execSweep (s : State) : Host.Outcome State Fault Refusal :=
  commandEvent s 0x12#8 fun s =>
    match s.sweepOperands with
    | none => s.refuse .range
    | some j =>
      if s.sweep.running then s.refuse .busy
      else
        let s := { s with sweep := ⟨true, some j, 0, 0, 0, false⟩ }
        s.post .accepted s.sweepBytes

/-- ABORT_SWEEP, code 13h (R127, R192). -/
def execAbortSweep (s : State) : Host.Outcome State Fault Refusal :=
  commandEvent s 0x13#8 fun s =>
    if s.sweep.running then
      let s := { s with sweep.running := false, sweep.aborted := true }.raisePart .sweepDone
      s.post .ok s.sweepBytes
    else s.post .already s.sweepBytes

end Sys2Proof.Machine
end

