-- ==== Sys2Proof/Machine/Timers.lean ====
section
/-! DEFINITION. The timer family: TIMEBASE_TICK, LEASE_EXPIRY, HOLD_OFF_EXPIRY, HELLO_TIMER_EXPIRY, NOTICE_TIMER_EXPIRY
(R15, R61 to R64, R68, R70, R102, R103, R148, R157). A tick brings a timer to 0; its expiry is then taken as an event of
its own, in whatever order with other events (logs 2 to 4). -/

namespace Sys2Proof.Machine

/-! ### The tick -/

/-- A running timer falls by 1; at 0 it waits for its expiry to be taken. -/
def tickTimer (t : Option Nat) : Option Nat := t.map (· - 1)

/-- R68: the age of a FREE tag rises by 1, stopping at 1023. -/
def TagEntry.tick : TagEntry → TagEntry
  | .free age => .free (min (age + 1) Config.maxAge)
  | e => e

/-- R15: lease remaining of a running lease falls by 1. -/
def BindingRecord.tick (r : BindingRecord) : BindingRecord := { r with lease := tickTimer r.lease }

/-- Whether the head of the free list has reached the hold-off (R70). -/
def State.headReached (s : State) : Bool :=
  match s.tags.freeList with
  | t :: _ =>
    match s.tagEntry t with
    | .free age => decide (s.tags.holdOff ≤ age)
    | _ => false
  | [] => false

/-- One tick of the millisecond timebase on leases, ages and the notice timers (R15, R68, R148, R157). -/
def State.advance (s : State) : State :=
  { s with
    records := s.records.map BindingRecord.tick
    tags.table := s.tags.table.map TagEntry.tick
    notice.hello := s.notice.hello.map fun h => { h with timer := tickTimer h.timer }
    notice.window := s.notice.window.map fun e => { e with timer := tickTimer e.timer } }

/-- TIMEBASE_TICK. A tick at which the head goes from not ready to ready while records wait is a hold-off expiry that
stands to be taken (R70, log 3). -/
def execTimebaseTick (s : State) : Host.Outcome State Fault Refusal :=
  takeEvent s fun s =>
    let s' := s.advance
    if !s.headReached && s'.headReached && !s.tags.waitQueue.isEmpty then { s' with tags.holdOffDue := true } else s'

/-! ### Lease expiry -/

/-- R103: entry to SILENT. -/
def State.enterSilent (s : State) (b : BindingNo) : State :=
  let s := s.updateRecord b fun r =>
    { r with state := .silent, lease := none, run := 0, consecutiveBad := 0, faults := 0, trial := none }
  s.raiseRecord b .silent

/-- The lease expiry of a record, by its state and pinned flag (R61 to R64, R102, R103). -/
def State.expireLease (s : State) (b : BindingNo) : State :=
  let r := s.record b
  match r.state with
  | .candidate =>
    if r.origin == .learnt && !r.pinned then s.lapse b
    else (s.updateRecord b fun r => { r with run := 0 }).startLease b
  | .tagWait => if r.pinned then s.startLease b else s.lapse b
  | .live | .suspended => if r.pinned then s.enterSilent b else s.beginRetirement b .lease
  | .free | .announcing | .silent | .retiring | .retired => s

/-- LEASE_EXPIRY: taken when a tick has brought the record's lease to 0 and nothing has renewed or stopped it since (R15,
R18, log 2). -/
def execLeaseExpiry (b : BindingNo) (s : State) : Host.Outcome State Fault Refusal :=
  takeEvent s fun s =>
    if (s.record b).lease = some 0 then ((s.expireLease b).grantIfReleased s).arbitrate else s

/-! ### Hold-off expiry -/

/-- HOLD_OFF_EXPIRY: a grant event (R70, R73). -/
def execHoldOffExpiry (s : State) : Host.Outcome State Fault Refusal :=
  takeEvent s fun s => ({ s with tags.holdOffDue := false }.grantEvent).arbitrate

/-! ### Notice timers -/

/-- R148: the session goes FAILED at HELLO exhaustion, with the hello slot emptied. -/
def State.exhaustHello (s : State) : State :=
  { s with notice.hello := none, notice.session := .failed }.raisePart .session

/-- HELLO_TIMER_EXPIRY: the HELLO becomes due again, or at count 4 it is exhausted (R148). -/
def execHelloTimerExpiry (s : State) : Host.Outcome State Fault Refusal :=
  takeEvent s fun s =>
    match s.notice.hello with
    | some h =>
      if h.timer = some 0 then
        (if h.count < Config.maxTransmissions then
          { s with notice.hello := some { h with timer := none, due := true } }
        else s.exhaustHello).arbitrate
      else s
    | none => s

/-- NOTICE_TIMER_EXPIRY: the entry becomes due, or at count 4 it is exhausted (R157). -/
def execNoticeTimerExpiry (q : Byte) (s : State) : Host.Outcome State Fault Refusal :=
  takeEvent s fun s =>
    match s.windowEntry q with
    | some e => if e.timer = some 0 then (s.timeoutEntry e).arbitrate else s
    | none => s

end Sys2Proof.Machine
end

