-- ==== Sys2Proof/Machine/Dispatch.lean ====
section
/-! DEFINITION. One arm per command: the direct call of its meaning, in the order of spec/opcode_table.json. -/

namespace Sys2Proof.Machine

def exec (i : Instr) (s : State) : Host.Outcome State Fault Refusal :=
  match i with
  | .openMarker link format stream frameNumber => Sys2Proof.Machine.execOpenMarker link format stream frameNumber s
  | .cellMarker link payload => Sys2Proof.Machine.execCellMarker link payload s
  | .frameClose link declared crc => Sys2Proof.Machine.execFrameClose link declared crc s
  | .unrecognisedMarker link bytes => Sys2Proof.Machine.execUnrecognisedMarker link bytes s
  | .lineLock link => Sys2Proof.Machine.execLineLock link s
  | .lockLoss link => Sys2Proof.Machine.execLockLoss link s
  | .leaseExpiry binding => Sys2Proof.Machine.execLeaseExpiry binding s
  | .holdOffExpiry => Sys2Proof.Machine.execHoldOffExpiry s
  | .sendCompletion => Sys2Proof.Machine.execSendCompletion s
  | .noticeEnd => Sys2Proof.Machine.execNoticeEnd s
  | .lineUp => Sys2Proof.Machine.execLineUp s
  | .lineDown => Sys2Proof.Machine.execLineDown s
  | .credit increment => Sys2Proof.Machine.execCredit increment s
  | .discardedReturnMessage bytes => Sys2Proof.Machine.execDiscardedReturnMessage bytes s
  | .helloAck number => Sys2Proof.Machine.execHelloAck number s
  | .ack seq => Sys2Proof.Machine.execAck seq s
  | .nak seq reason => Sys2Proof.Machine.execNak seq reason s
  | .resyncRequest => Sys2Proof.Machine.execResyncRequest s
  | .helloTimerExpiry => Sys2Proof.Machine.execHelloTimerExpiry s
  | .noticeTimerExpiry seq => Sys2Proof.Machine.execNoticeTimerExpiry seq s
  | .sweepVisit => Sys2Proof.Machine.execSweepVisit s
  | .statusWindowRead address length => Sys2Proof.Machine.execStatusWindowRead address length s
  | .commandWrite data => Sys2Proof.Machine.execCommandWrite data s
  | .go data => Sys2Proof.Machine.execGo data s
  | .ignoredWrite address data => Sys2Proof.Machine.execIgnoredWrite address data s
  | .unknownCommand => Sys2Proof.Machine.execUnknownCommand s
  | .status => Sys2Proof.Machine.execStatus s
  | .readRecord => Sys2Proof.Machine.execReadRecord s
  | .lookupKey => Sys2Proof.Machine.execLookupKey s
  | .lookupTag => Sys2Proof.Machine.execLookupTag s
  | .provision => Sys2Proof.Machine.execProvision s
  | .modify => Sys2Proof.Machine.execModify s
  | .retire => Sys2Proof.Machine.execRetire s
  | .releaseTag => Sys2Proof.Machine.execReleaseTag s
  | .nextAttention => Sys2Proof.Machine.execNextAttention s
  | .ackAttention => Sys2Proof.Machine.execAckAttention s
  | .setClass => Sys2Proof.Machine.execSetClass s
  | .setLink => Sys2Proof.Machine.execSetLink s
  | .readLink => Sys2Proof.Machine.execReadLink s
  | .setTiming => Sys2Proof.Machine.execSetTiming s
  | .setAttentionEnables => Sys2Proof.Machine.execSetAttentionEnables s
  | .trunkOpen => Sys2Proof.Machine.execTrunkOpen s
  | .trunkClose => Sys2Proof.Machine.execTrunkClose s
  | .sweep => Sys2Proof.Machine.execSweep s
  | .abortSweep => Sys2Proof.Machine.execAbortSweep s
  | .restart => Sys2Proof.Machine.execRestart s
  | .resetAssertion => Sys2Proof.Machine.execResetAssertion s
  | .powerOnReset => Sys2Proof.Machine.execPowerOnReset s
  | .timebaseTick => Sys2Proof.Machine.execTimebaseTick s

end Sys2Proof.Machine
end

