-- ==== Sys2Proof/Safety.lean ====
section
/-! DEFINITION. What counts as a safe run: the laws of the part that the spec says hold after every event, each as a
proposition about one state, and the words that statements about single commands use. -/

namespace Sys2Proof.Machine

/-! ### The laws of the part -/

/-- The three holdings of cells (R39): free, held by open frames, held by descriptors. -/
def State.cellTotal (s : State) : Nat :=
  s.freeCells + ((List.finRange 8).map fun l => ((s.feeder l).frame.map OpenFrame.cellsHeld).getD 0).sum
    + queueCells s.trunk.queue

/-- R39: the three holdings total 1536. A frame is open on an UP link only (Table 2-A). -/
def State.CellLaw (s : State) : Prop :=
  s.cellTotal = Config.cellStoreSize ∧ ∀ l, (s.feeder l).state ≠ .up → (s.feeder l).frame = none

/-- R129, R133, R155: the egress queue, the credit and the notice window stay within their capacities. -/
def State.CapacityLaw (s : State) : Prop :=
  s.trunk.queue.length ≤ Config.queueCapacity ∧ s.trunk.credit ≤ Config.maxCredit ∧
    s.notice.window.length ≤ Config.windowCapacity

/-- R3, R19: the ranges of a record's counts. -/
def BindingRecord.inRange (r : BindingRecord) : Prop :=
  r.run ≤ Config.maxRun ∧ r.consecutiveBad ≤ Config.maxRun ∧ r.faults ≤ Config.maxFaults ∧
    r.forwarded ≤ counterMax ∧ r.withheld ≤ counterMax ∧ r.bad ≤ counterMax ∧ r.gaps ≤ counterMax

/-- R43: the ranges of a link's counters. -/
def FeederLink.inRange (f : FeederLink) : Prop :=
  f.framesSeen ≤ counterMax ∧ f.badFrames ≤ counterMax ∧ f.overruns ≤ counterMax ∧ f.refused ≤ counterMax ∧
    f.discarded ≤ counterMax ∧ f.lockLosses ≤ counterMax

/-- R141, R164: the ranges of the trunk counters. -/
def TrunkCounters.inRange (c : TrunkCounters) : Prop :=
  c.framesSent ≤ counterMax ∧ c.framesPurged ≤ counterMax ∧ c.retransmitted ≤ counterMax ∧ c.strayReplies ≤ counterMax

/-- R3, R19, R43, R141, R164: every count stays in its range, and no 32-bit counter passes 4294967295. -/
def State.RangeLaw (s : State) : Prop :=
  (∀ b, (s.record b).inRange) ∧ (∀ l, (s.feeder l).inRange) ∧ s.counters.inRange

/-- Table 1-A: the ranges of a record's optional fields. Lease remaining is 0 while an expiry stands to be taken (log 2). -/
def BindingRecord.inBounds (r : BindingRecord) : Prop :=
  (∀ n, r.lease = some n → n ≤ 4095) ∧ (∀ g, r.geometry = some g → 1 ≤ g.cells ∧ g.cells ≤ Config.maxFrameCells) ∧
    ∀ g, r.trial = some g → 1 ≤ g.cells ∧ g.cells ≤ Config.maxFrameCells

/-- R11, Table 1-F: the ranges of a class's parameters. -/
def PolicyClass.inRange (p : PolicyClass) : Prop :=
  (1 ≤ p.admissionCount ∧ p.admissionCount ≤ 15) ∧ (1 ≤ p.faultThreshold ∧ p.faultThreshold ≤ 15) ∧
    (1 ≤ p.retireThreshold ∧ p.retireThreshold ≤ 63) ∧ 10 ≤ p.leaseLength ∧ p.leaseLength ≤ 4095

/-- R67, R69: the ranges of the ages, the hold-off and the stranded threshold. -/
def TagManager.inRange (m : TagManager) : Prop :=
  (∀ (x : Tag) (age : Nat), m.table[x] = .free age → age ≤ Config.maxAge) ∧ m.holdOff ≤ Config.maxAge ∧
    1 ≤ m.strandedThreshold ∧ m.strandedThreshold ≤ 8

/-- R124: the ranges of a sweep's result. A running sweep has a visit to make. -/
def SweepEngine.inRange (w : SweepEngine) : Prop :=
  w.cursor ≤ Config.sweepEnd ∧ w.matched ≤ w.cursor ∧ w.acted ≤ w.matched ∧
    (w.running = true → w.cursor < Config.sweepEnd)

/-- R145, R148: a HELLO is sent at most four times. -/
def Hello.inRange (h : Hello) : Prop :=
  h.count ≤ Config.maxTransmissions ∧ (h.due = true → h.count < Config.maxTransmissions)

/-- Table 1-A, R11, R32, R67, R69, R124, R145: the ranges of the values that are no counters. -/
def State.BoundLaw (s : State) : Prop :=
  (∀ b, (s.record b).inBounds) ∧ (∀ c : ClassNo, s.classes[c].inRange) ∧
    (∀ l f, (s.feeder l).frame = some f → f.cellsReceived ≤ Config.maxFrameCells + 1) ∧ s.tags.inRange ∧
    (1 ≤ s.notice.timeout ∧ s.notice.timeout ≤ 255) ∧ (∀ h, s.notice.hello = some h → h.inRange) ∧ s.sweep.inRange

/-- R155, R157: an entry of the window has been sent one to four times, and one that is due for retransmission fewer than
four, with its timer stopped. Each due number is an entry's, once. -/
def State.WindowLaw (s : State) : Prop :=
  (∀ e ∈ s.notice.window, 1 ≤ e.count ∧ e.count ≤ Config.maxTransmissions ∧
    (e.seq ∈ s.notice.retransmit → e.count < Config.maxTransmissions ∧ e.timer = none)) ∧
  s.notice.retransmit.Nodup ∧ ∀ q ∈ s.notice.retransmit, q ∈ s.notice.window.map (·.seq)

/-- R15: the states in which a record's lease runs. -/
def RecordState.leaseRuns : RecordState → Bool
  | .candidate | .tagWait | .live | .suspended => true
  | .free | .announcing | .silent | .retiring | .retired => false

/-- R15: lease remaining is present exactly in the running states. -/
def State.LeaseLaw (s : State) : Prop := ∀ b, (s.record b).lease.isSome = (s.record b).state.leaseRuns

/-- R169: "every RETIRED record has the RETIRED reason pending". -/
def State.ReasonLaw (s : State) : Prop :=
  ∀ b, (s.record b).state = .retired → (s.record b).reasons &&& RecordReason.retired.mask ≠ 0#5

/-- R86, R152: outside UP the window and the owed list are empty, no record is announced and none is LIVE. A HELLO stands
in the slot in OPENING and RESYNC only (R145, R148). -/
def State.SessionLaw (s : State) : Prop :=
  (s.notice.session ≠ .up →
    s.notice.window = [] ∧ s.notice.owed = [] ∧
      ∀ b, (s.record b).announced = false ∧ (s.record b).state ≠ .live) ∧
  (s.notice.hello.isSome → s.notice.session = .opening ∨ s.notice.session = .resync)

/-- R71, R154 to R156, R165 and Table 1-B: who stands on the owed list, in the window and on the wait queue, each at most
once, and the window's sequence numbers are distinct. -/
def State.NoticeLaw (s : State) : Prop :=
  (∀ b, (s.record b).phase = .owed ↔ b ∈ s.notice.owed) ∧ s.notice.owed.Nodup ∧
  (∀ b, (s.record b).phase = .outstanding ↔ b ∈ s.notice.window.map (·.binding)) ∧
  (s.notice.window.map (·.binding)).Nodup ∧ (s.notice.window.map (·.seq)).Nodup ∧
  s.notice.window.length ≤ Config.windowCapacity ∧
  (∀ b, (s.record b).phase ≠ .none → (s.record b).state = .announcing ∨ (s.record b).state = .retiring) ∧
  (∀ b, (s.record b).state = .tagWait ↔ b ∈ s.tags.waitQueue) ∧ s.tags.waitQueue.Nodup

/-- R8: "Among the active records, no two hold the same key". -/
def State.KeyLaw (s : State) : Prop :=
  ∀ b c, (s.record b).state.active = true → (s.record c).state.active = true →
    (s.record b).key = (s.record c).key → b = c

/-- R2: the states in which a record always holds a tag. -/
def RecordState.holdsTag : RecordState → Bool
  | .announcing | .live | .suspended | .silent | .retiring => true
  | .free | .candidate | .tagWait | .retired => false

/-- R2: the states in which a record never holds a tag. -/
def RecordState.lacksTag : RecordState → Bool
  | .free | .tagWait | .retired => true
  | .candidate | .announcing | .live | .suspended | .silent | .retiring => false

/-- The number of tags in state STRANDED (R80). -/
def State.countStranded (s : State) : Nat :=
  (List.finRange 31).countP fun t => match s.tagEntry t with | .stranded _ => true | .free _ | .held _ => false

/-- R2, R67, R68, R80: a tag is HELD by a record exactly when the record names it, the free list holds every FREE tag
once, and the stranded count counts. A window entry carries its record's tag (R155). -/
def State.TagLaw (s : State) : Prop :=
  (∀ t b, s.tagEntry t = .held b ↔ (s.record b).tag = some t) ∧
  s.tags.freeList.Nodup ∧ (∀ t, t ∈ s.tags.freeList ↔ ∃ age, s.tagEntry t = .free age) ∧
  s.tags.strandedCount = s.countStranded ∧
  (∀ b, (s.record b).state.lacksTag = true → (s.record b).tag = none) ∧
  (∀ b, (s.record b).state.holdsTag = true → (s.record b).tag.isSome) ∧
  ∀ e ∈ s.notice.window, (s.record e.binding).tag = some e.tag

/-- R2: the geometry is absent in FREE and CANDIDATE and present from TAG_WAIT through RETIRING, and a learnt CANDIDATE
holds no tag. -/
def State.HoldingLaw (s : State) : Prop :=
  (∀ b, (s.record b).state = .free ∨ (s.record b).state = .candidate → (s.record b).geometry = none) ∧
  (∀ b, (s.record b).state = .tagWait ∨ (s.record b).state.holdsTag = true → (s.record b).geometry.isSome) ∧
  ∀ b, (s.record b).state = .candidate → (s.record b).origin = .learnt → (s.record b).tag = none

/-- R73: "after every event of the Tag Manager, either the wait queue is empty or the head of the free list is not
ready". -/
def State.HeadLaw (s : State) : Prop :=
  s.tags.waitQueue = [] ∨ ∀ x rest, s.tags.freeList = x :: rest → s.tagReady x = false

/-- The number of descriptors that name a record (R5). -/
def State.descriptorsOf (s : State) (b : BindingNo) : Nat := s.trunk.queue.countP fun d => d.binding == some b

/-- R5, R134: the in-flight count is the number of descriptors naming the record, and it is above 0 only in LIVE,
SUSPENDED and SILENT, and in ANNOUNCING and RETIRING while the notice waits in DRAIN. -/
def State.FlightLaw (s : State) : Prop :=
  (∀ b, (s.record b).inFlight = s.descriptorsOf b) ∧
  ∀ b, 0 < (s.record b).inFlight →
    (s.record b).state = .live ∨ (s.record b).state = .suspended ∨ (s.record b).state = .silent ∨
      (((s.record b).state = .announcing ∨ (s.record b).state = .retiring) ∧ (s.record b).phase = .drain)

/-- R131: whenever the output is IDLE and the line UP, the arbiter has nothing to begin. -/
def State.Quiet (s : State) : Prop := s.arbitrate = s

/-- All the laws together. -/
def State.Lawful (s : State) : Prop :=
  s.CellLaw ∧ s.CapacityLaw ∧ s.RangeLaw ∧ s.BoundLaw ∧ s.WindowLaw ∧ s.LeaseLaw ∧ s.ReasonLaw ∧ s.SessionLaw ∧
    s.NoticeLaw ∧ s.KeyLaw ∧ s.TagLaw ∧ s.HeadLaw ∧ s.HoldingLaw ∧ s.FlightLaw ∧ s.Quiet

/-! ### Words of statements about one command -/

/-- The part takes events: RESET is not asserted (R194). -/
def State.awake (s : State) : Prop := s.resetAsserted = false

/-- Return-path messages arrive: the part takes events and the trunk line is UP (R132). -/
def State.hears (s : State) : Prop := s.resetAsserted = false ∧ s.line = .up

/-- The command of a code is in hand: the part takes events, the mailbox is BUSY and byte 0 of the command block is the
code (R181, R182). -/
def State.inHand (s : State) (code : Byte) : Prop :=
  s.resetAsserted = false ∧ s.host.mailbox = .busy ∧ s.host.command[0] = code

/-- The host port after a command event (R182): result code, command code, data, 00h in every other byte, mailbox DONE,
and nothing else of the port changed. -/
def State.answers (s t : State) (result : Byte) (data : List Byte) : Prop :=
  t.host.response.toList = result :: s.host.command[0] :: data ++ List.replicate (30 - data.length) 0#8 ∧
  { t.host with response := s.host.response } = { s.host with mailbox := .done }

/-- A command refused with a result code: the response carries the two codes alone, and nothing of the part changes
(R183). -/
def State.refusedWith (s : State) (c : Instr) (result : Byte) : Prop :=
  ∃ t, exec c s = .next t ∧ s.answers t result [] ∧ { t with host := s.host } = s

/-- Byte `i` of the command block, as a number. -/
def State.op (s : State) (i : Fin 16) : Nat := s.host.command[i].toNat

/-- A clear, pinned or enable flag as its operand number (R198). -/
def flagOp (b : Bool) : Nat := if b then 1 else 0

/-- Records other than `b` are as before. -/
def State.othersKept (s t : State) (b : BindingNo) : Prop := ∀ c, c ≠ b → t.record c = s.record c

/-- Links other than `l` are as before. -/
def State.linksKept (s t : State) (l : LinkNo) : Prop := ∀ m, m ≠ l → t.feeder m = s.feeder m

/-- The state with record `b` replaced. -/
def State.putRecord (s : State) (b : BindingNo) (r : BindingRecord) : State := { s with records := s.records.set b r }

/-- The state with link `l` replaced. -/
def State.putFeeder (s : State) (l : LinkNo) (f : FeederLink) : State := { s with feeders := s.feeders.set l f }

/-- The part-level reasons after a raise of the reasons of a mask (R168). -/
def State.partAfter (s : State) (mask : BitVec 6) : BitVec 6 :=
  if s.attention.partEnables &&& mask = 0#6 then s.attention.part else s.attention.part ||| mask

/-- The reasons of a record after a raise of the reason of a mask (R168). -/
def State.reasonsAfter (s : State) (old mask : BitVec 5) : BitVec 5 :=
  if s.attention.recordEnables &&& mask = 0#5 then old else old ||| mask

/-- R38: a frame number that is not the one after the last frame number. -/
def gapAfter (last : Option Byte) (n : Byte) : Bool :=
  match last with
  | some m => n != m + 1
  | none => false

/-- What every close leaves on the record it reaches in the states of R17, R19 and R38: a running lease renewed to `len`,
the gap counted, the last frame number set. -/
def BindingRecord.seen (r : BindingRecord) (c : FrameClose) (len : Nat) : BindingRecord :=
  { r with
    lease := r.lease.map fun _ => len
    gaps := if gapAfter r.lastFrame c.frameNumber then satSucc r.gaps else r.gaps
    lastFrame := some c.frameNumber }

/-- Table 3-B, the run after a good close. -/
def BindingRecord.runAfter (r : BindingRecord) (c : FrameClose) : Nat :=
  if r.trial = some c.geometry ∧ gapAfter r.lastFrame c.frameNumber = false then min (r.run + 1) 15 else 1

/-- Table 2-D, less the refused and discarded counters: a link after a close, with no frame open. -/
def FeederLink.afterClose (f : FeederLink) (c : FrameClose) : FeederLink :=
  { f with
    frame := none
    framesSeen := satSucc f.framesSeen
    badFrames := if c.good then f.badFrames else satSucc f.badFrames
    overruns := if c.good && c.overrun then satSucc f.overruns else f.overruns }

/-- A close that returned its cells and changed nothing but its link's entry and record `b`. -/
def State.closeKeeps (s t : State) (c : FrameClose) (b : BindingNo) : Prop :=
  s.othersKept t b ∧ s.linksKept t c.key.link ∧ t.freeCells = s.freeCells + c.cells.length ∧
    { t with records := s.records, feeders := s.feeders, freeCells := s.freeCells } = s

/-- R119: what a record becomes when it completes retirement, from its fields as they stand with its cause and stranded
note set. -/
def State.retiredOrFree (s : State) (r : BindingRecord) : BindingRecord :=
  if s.classes[r.cls].autoClear = true ∨ s.attention.recordEnables &&& 0x10#5 = 0#5 then BindingRecord.free
  else
    { r with
      state := .retired, tag := none, lease := none, trial := none, run := 0, consecutiveBad := 0, inFlight := 0,
      phase := .none, bindPending := false, announced := false, reasons := r.reasons ||| 0x10#5 }

/-- R3, R16, R115: a record on entry to RETIRING with a cause. -/
def BindingRecord.atRetirement (r : BindingRecord) (cause : RetireCause) : BindingRecord :=
  { r with state := .retiring, cause := some cause, lease := none, run := 0, trial := none }

/-- R76: the Tag Manager after the release of a tag that a record held. -/
def TagManager.releasing (m : TagManager) (t : Tag) : TagManager :=
  { m with table := m.table.set t (.free 0), freeList := m.freeList ++ [t] }

/-- R55: a record on entry to ANNOUNCING with a tag, its lease stopped and its run 0, by the session. -/
def State.announcedAs (s : State) (r : BindingRecord) (t : Tag) : BindingRecord :=
  { r with
    state := .announcing, tag := some t, lease := none, run := 0, trial := none
    phase := if s.notice.session = .up then .owed else .awaitSession }

/-- The owed list with a record at its tail while the session is UP (R55, R99). -/
def State.owedWith (s : State) (b : BindingNo) : List BindingNo :=
  if s.notice.session = .up then s.notice.owed ++ [b] else s.notice.owed

/-- R53, R54: from `s` to `t` record `b`, whose fields after the close that completed its admission are `r`, completes
admission: with its fixed tag, with the ready head of the free list when no record waits, or into TAG_WAIT. -/
def State.admits (s t : State) (b : BindingNo) (r : BindingRecord) : Prop :=
  let r' := { r with geometry := r.trial, trial := none }
  let waits :=
    t.record b = { r' with state := .tagWait, lease := some s.classes[r.cls].leaseLength } ∧
      t.notice = s.notice ∧ t.tags = { s.tags with waitQueue := s.tags.waitQueue ++ [b] }
  match r.tag, s.tags.waitQueue, s.tags.freeList with
  | some x, _, _ =>
    t.record b = s.announcedAs r' x ∧ t.notice = { s.notice with owed := s.owedWith b } ∧ t.tags = s.tags
  | none, [], x :: rest =>
    if s.tagReady x then
      t.record b = s.announcedAs r' x ∧ t.notice = { s.notice with owed := s.owedWith b } ∧
        t.tags = { s.tags with table := s.tags.table.set x (.held b), freeList := rest }
    else waits
  | none, _, _ => waits

end Sys2Proof.Machine
end

