-- ==== Sys2Proof/Certificates/Slice0/Obligations.lean ====
section
/-! DEFINITION. The statements for the provers, family by family. A statement about a command concludes that `exec` answers a
next state and says what that state holds, with everything else as before. Where the spec ends an event with the arbiter's
choice (R131, log 8) the next state is written `u.arbitrate`, and `ArbiterOrder`, `DataBeginIsAllowed` and `NoticeBeginTakesEntry` say
what the arbiter does with `u`. Close statements are about `State.takeClose`, which `FrameCloseIsJudged`,
`OpenMarkerTruncates` and `LineLockAndLockLoss` tie to the commands. -/

open Sys2Proof Sys2Proof.Machine

/-! ### The step, the queue and the resets -/

/-- A step takes the command at the front of the queue and runs it with the queue's rest. No command stops the part, and none
touches the commands that wait. On an empty queue the part idles. The queue and the idling are the model's (log 1). -/
def Obligations.StepTakesFront : Prop :=
  (∀ (c : Instr) (rest : List Instr) (s : State), s.pending = c :: rest →
    step s = exec c { s with pending := rest } ∧ ∃ t, step s = .next t ∧ t.pending = rest) ∧
  ∀ s : State, s.pending = [] → step s = .next s

/-- R194: the RESET pin. The commands that wait outside the part wait on (log 1); the state stands until the release, no other
event is taken before it, and the release acts without an assertion before it too (log 15); MISO undriven is the model's
empty capture field (log 7). -/
def Obligations.ResetPinIsObeyed : Prop :=
  ∀ s : State,
    exec .resetAssertion s = .next { s with resetAsserted := true, host.miso := none } ∧
    exec .powerOnReset s = .next { State.reset with pending := s.pending } ∧
    (s.resetAsserted = true → s.attnLow = false ∧
      ∀ c, c ≠ .resetAssertion → c ≠ .powerOnReset → exec c s = .next s)

/-- R25, R45, R84, R124, R129, R132, R145, R164, R167, R194: the power-on values. -/
def Obligations.ResetValues : Prop :=
  (∀ b, State.reset.record b =
    { state := .free, origin := .learnt, pinned := false, cls := 0, key := ⟨0, 0⟩, tag := none, geometry := none,
      trial := none, lastFrame := none, run := 0, consecutiveBad := 0, faults := 0, lease := none, inFlight := 0,
      phase := .none, bindPending := false, announced := false, cause := none, strandedNote := false, forwarded := 0,
      withheld := 0, bad := 0, gaps := 0, reasons := 0#5 }) ∧
  (∀ c : ClassNo, State.reset.classes[c] =
    { admissionCount := 3, faultThreshold := 4, retireThreshold := 16, leaseLength := 250, priority := .normal,
      reshapeAllowed := false, autoClear := false }) ∧
  (∀ l, State.reset.feeder l =
    { state := .disabled, frame := none, defaultClass := 0, framesSeen := 0, badFrames := 0, overruns := 0, refused := 0,
      discarded := 0, lockLosses := 0 }) ∧
  State.reset.freeCells = 1536 ∧
  (∀ t, State.reset.tagEntry t = .free 1023) ∧ State.reset.tags.freeList = List.finRange 31 ∧
  State.reset.tags.waitQueue = [] ∧ State.reset.tags.strandedCount = 0 ∧ State.reset.tags.holdOff = 100 ∧
  State.reset.tags.strandedThreshold = 3 ∧
  (∀ h t, h ≤ 1023 → { State.reset with tags.holdOff := h }.tagReady t = true) ∧
  State.reset.trunk = ⟨[], .idle, 0⟩ ∧ State.reset.line = .down ∧ State.reset.counters = ⟨0, 0, 0, 0⟩ ∧
  State.reset.notice =
    { session := .closed, number := 0#8, hello := none, owed := [], window := [], retransmit := [], sequence := 0#8,
      timeout := 20 } ∧
  State.reset.sweep =
    { running := false, job := none, cursor := 0, matched := 0, acted := 0, aborted := false } ∧
  State.reset.attention = { part := 0#6, recordEnables := 0x1F#5, partEnables := 0x3F#6, cursor := 0 } ∧
  State.reset.attentionSet = [] ∧ State.reset.attnLow = false ∧
  State.reset.host.mailbox = .idle ∧ State.reset.host.collision = false ∧
  (∀ i : Fin 16, State.reset.host.command[i] = 0#8) ∧ (∀ i : Fin 32, State.reset.host.response[i] = 0#8)

/-- R193 with R26, R46, R85, R128, R144, R166 and R177: RESTART. That the waiting commands stay is the model's (log 1), as is
that its flag of a standing hold-off expiry falls (log 3) and its MISO capture stays (log 7). -/
def Obligations.RestartTakesEffect : Prop :=
  ∀ s : State, s.inHand 0x14#8 →
    let kept := (s.trunk.queue.filter (·.inTransmission)).map fun d => { d with binding := none }
    ∃ t, exec .restart s = .next t ∧
      t = { State.reset with
        classes := s.classes, line := s.line, pending := s.pending
        feeders := s.feeders.map fun f => { FeederLink.initial with state := f.state, defaultClass := f.defaultClass }
        freeCells := 1536 - (kept.map fun d => d.cells.length).sum
        tags := { TagManager.initial with holdOff := s.tags.holdOff, strandedThreshold := s.tags.strandedThreshold }
        trunk := { queue := kept, output := s.trunk.output, credit := 0 }
        notice := { NoticeUnit.initial with timeout := s.notice.timeout }
        attention := { part := 0#6, recordEnables := s.attention.recordEnables, partEnables := s.attention.partEnables, cursor := 0 }
        host := { s.host with mailbox := .done, collision := false, response := t.host.response } } ∧
      t.host.response.toList = 0x00#8 :: 0x14#8 :: List.replicate 30 0x00#8 ∧ t.attentionSet = [] ∧ t.attnLow = false

/-! ### Feeder links -/

/-- R33: an OPEN marker on an UP link with no frame open. -/
def Obligations.OpenMarkerOpensFrame : Prop :=
  ∀ (l : LinkNo) (format : Fin 16) (stream : StreamNo) (n : Byte) (s : State),
    s.awake → (s.feeder l).state = .up → (s.feeder l).frame = none →
    exec (.openMarker l format stream n) s = .next (s.putFeeder l
      { s.feeder l with frame := some {
          stream := stream, format := format, frameNumber := n,
          storage := match s.resolveKey ⟨l, stream⟩ with
            | some b => if (s.record b).state = .live then .stored else .tracked
            | none => .tracked
          cellsReceived := 0, cells := [], parityFailed := false, crc := 0xFFFF#16, overrun := false } })

/-- R35: an OPEN marker while a frame is open. The open frame's bad close is taken first, and the storage of the new frame is
decided by the table as that close left it. The arbiter's choice comes at the end of the whole event (R131, log 8). -/
def Obligations.OpenMarkerTruncates : Prop :=
  ∀ (l : LinkNo) (format : Fin 16) (stream : StreamNo) (n : Byte) (s : State) (f : OpenFrame),
    s.awake → (s.feeder l).state = .up → (s.feeder l).frame = some f →
    ∃ u v t, exec (.openMarker l format stream n) s = .next t ∧
      u = s.takeClose
        { key := ⟨l, f.stream⟩, good := false, truncated := true, geometry := ⟨f.format, f.cellsReceived⟩,
          frameNumber := f.frameNumber, stored := f.storage == .stored, overrun := f.overrun, cells := f.cells } ∧
      exec (.openMarker l format stream n) u = .next v ∧ t = v.arbitrate ∧
      (t.feeder l).frame = some {
          stream := stream, format := format, frameNumber := n,
          storage := match t.resolveKey ⟨l, stream⟩ with
            | some b => if (t.record b).state = .live then .stored else .tracked
            | none => .tracked
          cellsReceived := 0, cells := [], parityFailed := false, crc := 0xFFFF#16, overrun := false } ∧
      (t.feeder l).state = .up ∧ (t.feeder l).framesSeen = satSucc (s.feeder l).framesSeen ∧
      (t.feeder l).badFrames = satSucc (s.feeder l).badFrames ∧ s.linksKept t l

/-- R34, R40, R41, R195: a CELL marker of an open frame: tracked, reserved, overrun, overlength. The payload is every byte
after the type byte B2h: the parity verdict is a pass for 33 bytes that cancel only, the cell's 32 bytes are the first 32 or
00h, and the CRC takes them most significant bit first by the generator x^16+x^12+x^5+1. -/
def Obligations.CellMarkerAddsToFrame : Prop :=
  ∀ (l : LinkNo) (payload : List Byte) (s : State) (f : OpenFrame),
    s.awake → (s.feeder l).state = .up → (s.feeder l).frame = some f →
    let data := cellData payload
    let counted := { f with
      cellsReceived := min (f.cellsReceived + 1) 97
      parityFailed := f.parityFailed || cellParityFails payload
      crc := crcBytes f.crc data }
    let put (g : OpenFrame) (s : State) : State := s.putFeeder l { s.feeder l with frame := some g }
    (cellParityFails payload = false ↔ payload.length = 33 ∧ payload.foldl (· ^^^ ·) 0#8 = 0#8) ∧
    (data.length = 32 ∧ ∀ i, i < 32 → data.getD i 0#8 = if h : i < payload.length then payload[i] else 0x00#8) ∧
    (∀ c : BitVec 16, crcBytes c [] = c ∧ ∀ (x : Byte) (rest : List Byte), crcBytes c (x :: rest) =
      crcBytes ((List.range 8).foldl (fun (c : BitVec 16) i =>
        if c.getLsbD 15 = x.getLsbD (7 - i) then c <<< 1 else (c <<< 1) ^^^ 0x1021#16) c) rest) ∧
    (f.storage = .tracked → exec (.cellMarker l payload) s = .next (put counted s)) ∧
    (f.storage = .stored → counted.cellsReceived ≤ 96 → 0 < s.freeCells →
      exec (.cellMarker l payload) s = .next (put { counted with cells := f.cells ++ [data] }
        { s with freeCells := s.freeCells - 1 })) ∧
    (f.storage = .stored → counted.cellsReceived ≤ 96 → s.freeCells = 0 →
      exec (.cellMarker l payload) s = .next (put { counted with storage := .tracked, cells := [], overrun := true }
        { s with freeCells := f.cells.length, attention.part := s.partAfter 0x02#6 })) ∧
    (f.storage = .stored → counted.cellsReceived = 97 →
      exec (.cellMarker l payload) s = .next (put { counted with storage := .tracked, cells := [] }
        { s with freeCells := s.freeCells + f.cells.length }))

/-- R30: stray markers. -/
def Obligations.StrayMarkersAreDiscarded : Prop :=
  ∀ (l : LinkNo) (s : State), s.awake → (s.feeder l).state = .up → (s.feeder l).frame = none →
    (∀ payload, exec (.cellMarker l payload) s = .next s) ∧
    (∀ declared crc, exec (.frameClose l declared crc) s = .next s) ∧
    ∀ format stream n, ∃ t f, exec (.openMarker l format stream n) s = .next t ∧ (t.feeder l).frame = some f ∧
      f.stream = stream ∧ f.format = format ∧ f.frameNumber = n

/-- R195, R197, R180: an unrecognised marker, a return-path message that fails the check, and a write to a window that takes
none change nothing, whatever operands the term has, ill-formed ones too (log 24). That a marker off an UP link and a
return-path message on a DOWN line change nothing is the model's reading (log 5). -/
def Obligations.InputsThatChangeNothing : Prop :=
  ∀ s : State,
    (∀ l bytes, exec (.unrecognisedMarker l bytes) s = .next s) ∧
    (∀ bytes, exec (.discardedReturnMessage bytes) s = .next s) ∧
    (∀ address data, exec (.ignoredWrite address data) s = .next s) ∧
    (∀ l, (s.feeder l).state ≠ .up →
      (∀ format stream n, exec (.openMarker l format stream n) s = .next s) ∧
      (∀ payload, exec (.cellMarker l payload) s = .next s) ∧
      ∀ declared crc, exec (.frameClose l declared crc) s = .next s) ∧
    (s.line = .down →
      (∀ n, exec (.credit n) s = .next s) ∧ (∀ n, exec (.helloAck n) s = .next s) ∧
      (∀ q, exec (.ack q) s = .next s) ∧ (∀ q r, exec (.nak q r) s = .next s) ∧ exec .resyncRequest s = .next s)

/-- R29: the line-lock and lock-loss events. That each changes nothing where R29 says it does not arise is the model's reading
(log 5). -/
def Obligations.LineLockAndLockLoss : Prop :=
  ∀ (l : LinkNo) (s : State), s.awake →
    ((s.feeder l).state = .seeking →
      exec (.lineLock l) s = .next
        ({ s with attention.part := s.partAfter 0x20#6 }.putFeeder l { s.feeder l with state := .up, frame := none })) ∧
    ((s.feeder l).state = .up → (s.feeder l).frame = none →
      exec (.lockLoss l) s = .next
        ({ s with attention.part := s.partAfter 0x20#6 }.putFeeder l
          { s.feeder l with state := .seeking, lockLosses := satSucc (s.feeder l).lockLosses })) ∧
    (∀ f, (s.feeder l).state = .up → (s.feeder l).frame = some f →
      ∃ u t, u = s.takeClose
          { key := ⟨l, f.stream⟩, good := false, truncated := true, geometry := ⟨f.format, f.cellsReceived⟩,
            frameNumber := f.frameNumber, stored := f.storage == .stored, overrun := f.overrun, cells := f.cells } ∧
        exec (.lockLoss l) s = .next t ∧
        t = ({ u with attention.part := u.partAfter 0x20#6 }.putFeeder l
          { u.feeder l with state := .seeking, lockLosses := satSucc (u.feeder l).lockLosses }).arbitrate ∧
        (t.feeder l).frame = none ∧ (t.feeder l).lockLosses = satSucc (s.feeder l).lockLosses) ∧
    ((s.feeder l).state ≠ .seeking → exec (.lineLock l) s = .next s) ∧
    ((s.feeder l).state ≠ .up → exec (.lockLoss l) s = .next s)

/-- R36, R37: the judgement of a frame at its CLOSE marker, and the close it delivers. -/
def Obligations.FrameCloseIsJudged : Prop :=
  ∀ (l : LinkNo) (declared : Byte) (crc : BitVec 16) (s : State) (f : OpenFrame),
    s.awake → (s.feeder l).state = .up → (s.feeder l).frame = some f →
    ∃ c : FrameClose,
      exec (.frameClose l declared crc) s = .next (s.takeClose c).arbitrate ∧
      c.key = ⟨l, f.stream⟩ ∧ c.truncated = false ∧ c.geometry = ⟨f.format, f.cellsReceived⟩ ∧
      c.frameNumber = f.frameNumber ∧ (c.stored = true ↔ f.storage = .stored) ∧ c.overrun = f.overrun ∧
      c.cells = f.cells ∧
      (c.good = false ↔ f.parityFailed = true ∨ f.cellsReceived = 0 ∨ 96 < f.cellsReceived ∨
        declared.toNat ≠ f.cellsReceived ∨ crc ≠ f.crc) ∧
      ((s.takeClose c).feeder l).frame = none

/-! ### The frame close -/

/-- R47 to R49: a close whose key resolves to no record: no effect but the link counters, a learnt record in the lowest FREE
record, or a refusal with TABLE_FULL. A learnt record that completes admission at once is in `AdmissionCompletes`. -/
def Obligations.CloseOfUnknownKey : Prop :=
  ∀ (s : State) (c : FrameClose), s.resolveKey c.key = none →
    let link := (s.feeder c.key.link).afterClose c
    let base := { s with freeCells := s.freeCells + c.cells.length }
    (c.good = false ∨ c.overrun = true → s.takeClose c = base.putFeeder c.key.link link) ∧
    (c.good = true → c.overrun = false → s.lowestFree = none →
      s.takeClose c = { base with attention.part := s.partAfter 0x01#6 }.putFeeder c.key.link
        { link with refused := satSucc link.refused }) ∧
    ∀ b, c.good = true → c.overrun = false → s.lowestFree = some b →
      1 < s.classes[(s.feeder c.key.link).defaultClass].admissionCount →
      s.takeClose c = (base.putFeeder c.key.link link).putRecord b
        { BindingRecord.free with
          state := .candidate, origin := .learnt, pinned := false, cls := (s.feeder c.key.link).defaultClass, key := c.key
          trial := some c.geometry, run := 1, lastFrame := some c.frameNumber
          lease := some s.classes[(s.feeder c.key.link).defaultClass].leaseLength }

/-- R50 to R52 with Table 3-B: a close for a CANDIDATE that does not complete its admission. -/
def Obligations.CloseOfCandidate : Prop :=
  ∀ (s : State) (c : FrameClose) (b : BindingNo), s.resolveKey c.key = some b → (s.record b).state = .candidate →
    let r := s.record b
    let seen := r.seen c (s.classOf b).leaseLength
    let t := s.takeClose c
    (c.good = true → c.overrun = true → t.record b = seen) ∧
    (c.good = false → t.record b = { seen with run := 0, bad := satSucc r.bad }) ∧
    (c.good = true → c.overrun = false → r.runAfter c < (s.classOf b).admissionCount →
      t.record b = { seen with trial := some c.geometry, run := r.runAfter c }) ∧
    (c.good = false ∨ c.overrun = true ∨ r.runAfter c < (s.classOf b).admissionCount →
      s.closeKeeps t c b ∧ t.feeder c.key.link = (s.feeder c.key.link).afterClose c)

/-- R53 to R56: completion of admission, of a CANDIDATE at a good close and of a learnt record at its creation (R48) when the
admission count is 1. -/
def Obligations.AdmissionCompletes : Prop :=
  ∀ (s : State) (c : FrameClose) (b : BindingNo) (r : BindingRecord), c.good = true → c.overrun = false →
    (s.resolveKey c.key = some b ∧ (s.record b).state = .candidate ∧
        (s.classOf b).admissionCount ≤ (s.record b).runAfter c ∧
        r = { (s.record b).seen c (s.classOf b).leaseLength with
          trial := some c.geometry, run := (s.record b).runAfter c } ∨
      s.resolveKey c.key = none ∧ s.lowestFree = some b ∧
        s.classes[(s.feeder c.key.link).defaultClass].admissionCount ≤ 1 ∧
        r = { BindingRecord.free with
          state := .candidate, cls := (s.feeder c.key.link).defaultClass, key := c.key, trial := some c.geometry, run := 1
          lastFrame := some c.frameNumber }) →
    let t := s.takeClose c
    s.admits t b r ∧ s.othersKept t b ∧ s.linksKept t c.key.link ∧ t.freeCells = s.freeCells + c.cells.length ∧
      t.feeder c.key.link = (s.feeder c.key.link).afterClose c ∧
      { t with records := s.records, feeders := s.feeders, freeCells := s.freeCells, tags := s.tags, notice := s.notice } = s

/-- R57, R37, R117: a close for a record in TAG_WAIT, ANNOUNCING or RETIRING. -/
def Obligations.CloseWithheldOrDiscarded : Prop :=
  ∀ (s : State) (c : FrameClose) (b : BindingNo), s.resolveKey c.key = some b →
    let r := s.record b
    let seen := r.seen c (s.classOf b).leaseLength
    let bad := if c.good then r.bad else satSucc r.bad
    let link := (s.feeder c.key.link).afterClose c
    let t := s.takeClose c
    (r.state = .tagWait → s.closeKeeps t c b ∧ t.record b = { seen with bad := bad } ∧ t.feeder c.key.link = link) ∧
    (r.state = .announcing → s.closeKeeps t c b ∧
      t.record b = { seen with lease := r.lease, bad := bad, withheld := satSucc r.withheld } ∧
      t.feeder c.key.link = link) ∧
    (r.state = .retiring → s.closeKeeps t c b ∧
      t.record b = { r with withheld := if c.stored then satSucc r.withheld else r.withheld } ∧
      t.feeder c.key.link = { link with discarded := satSucc link.discarded })

/-- R87 to R89, R130: a forwardable close of a LIVE record, with room in the egress queue and without. -/
def Obligations.LiveCloseIsForwarded : Prop :=
  ∀ (s : State) (c : FrameClose) (b : BindingNo) (x : Tag), s.resolveKey c.key = some b → (s.record b).state = .live →
    (s.record b).tag = some x → c.good = true → (s.record b).geometry = some c.geometry → c.stored = true →
    let r := s.record b
    let seen := r.seen c (s.classOf b).leaseLength
    let link := (s.feeder c.key.link).afterClose c
    let t := s.takeClose c
    s.othersKept t b ∧ s.linksKept t c.key.link ∧
    (s.trunk.queue.length < 40 →
      t.trunk.queue = s.trunk.queue ++
        [{ binding := some b, tag := x, cells := c.cells, frameNumber := c.frameNumber,
           priority := (s.classOf b).priority, inTransmission := false }] ∧
      t.record b =
        { seen with inFlight := r.inFlight + 1, forwarded := satSucc r.forwarded, consecutiveBad := 0 } ∧
      t.feeder c.key.link = link ∧
      { t with records := s.records, feeders := s.feeders, trunk := { t.trunk with queue := s.trunk.queue } } = s) ∧
    (40 ≤ s.trunk.queue.length →
      t.freeCells = s.freeCells + c.cells.length ∧
      t.record b = { seen with withheld := satSucc r.withheld, consecutiveBad := 0 } ∧
      t.feeder c.key.link = { link with overruns := satSucc link.overruns } ∧
      t.attention.part = s.partAfter 0x02#6 ∧
      { t with
        records := s.records, feeders := s.feeders, freeCells := s.freeCells
        attention := { t.attention with part := s.attention.part } } = s)

/-- R90 to R92: a close of a LIVE record that is not stored, of another geometry, or bad; suspension at the fault
threshold. -/
def Obligations.LiveCloseIsWithheld : Prop :=
  ∀ (s : State) (c : FrameClose) (b : BindingNo), s.resolveKey c.key = some b → (s.record b).state = .live →
    let r := s.record b
    let seen := r.seen c (s.classOf b).leaseLength
    let t := s.takeClose c
    let faulty := { seen with
      bad := if c.good then r.bad else satSucc r.bad
      withheld := satSucc r.withheld, consecutiveBad := min (r.consecutiveBad + 1) 15 }
    (c.good = true → r.geometry = some c.geometry → c.stored = false →
      t.record b = { seen with withheld := satSucc r.withheld, consecutiveBad := 0 }) ∧
    (c.good = false ∨ r.geometry ≠ some c.geometry →
      t.record b =
        if (s.classOf b).faultThreshold ≤ faulty.consecutiveBad then
          { faulty with
            state := .suspended, consecutiveBad := 0, run := 0, faults := 0, trial := none
            lease := some (s.classOf b).leaseLength, reasons := s.reasonsAfter r.reasons 0x02#5 }
        else faulty) ∧
    (c.good = false ∨ r.geometry ≠ some c.geometry ∨ c.stored = false →
      s.closeKeeps t c b ∧ t.feeder c.key.link = (s.feeder c.key.link).afterClose c)

/-- R94 to R96: a close of a SUSPENDED or SILENT record that neither requalifies nor retires it. -/
def Obligations.RequalifyingClose : Prop :=
  ∀ (s : State) (c : FrameClose) (b : BindingNo), s.resolveKey c.key = some b →
    (s.record b).state = .suspended ∨ (s.record b).state = .silent →
    let r := s.record b
    let seen := { r.seen c (s.classOf b).leaseLength with withheld := satSucc r.withheld }
    let faults := min (r.faults + 1) 63
    let t := s.takeClose c
    (c.good = true → c.overrun = true → t.record b = seen) ∧
    (c.good = false → (r.pinned = true ∨ faults < (s.classOf b).retireThreshold) →
      t.record b = { seen with run := 0, bad := satSucc r.bad, faults := faults }) ∧
    (c.good = true → c.overrun = false → r.runAfter c < (s.classOf b).admissionCount →
      t.record b = { seen with trial := some c.geometry, run := r.runAfter c }) ∧
    (c.good = true ∧ (c.overrun = true ∨ r.runAfter c < (s.classOf b).admissionCount) ∨
        c.good = false ∧ (r.pinned = true ∨ faults < (s.classOf b).retireThreshold) →
      s.closeKeeps t c b ∧ t.feeder c.key.link = (s.feeder c.key.link).afterClose c)

/-- R97 to R101 with Table 5-B, and R95: the four outcomes of requalification, and retirement with cause FAULT.
That a count standing at 63 is compared too is the model's reading (log 26). `grantIfReleased` takes the grants of a release at
hold-off 0 (R76, log 18). -/
def Obligations.RequalificationOutcome : Prop :=
  ∀ (s : State) (c : FrameClose) (b : BindingNo), s.resolveKey c.key = some b →
    (s.record b).state = .suspended ∨ (s.record b).state = .silent →
    let r := s.record b
    let seen := { r.seen c (s.classOf b).leaseLength with withheld := satSucc r.withheld }
    let ran := { seen with trial := some c.geometry, run := r.runAfter c }
    let faults := min (r.faults + 1) 63
    let base := { s with freeCells := s.freeCells + c.cells.length }.putFeeder c.key.link
      ((s.feeder c.key.link).afterClose c)
    let announcing := { ran with
      state := .announcing, geometry := some c.geometry, trial := none, run := 0, consecutiveBad := 0, faults := 0, lease := none
      phase := if 0 < r.inFlight then .drain else if s.notice.session = .up then .owed else .awaitSession }
    let owed := if 0 < r.inFlight then s.notice.owed else s.owedWith b
    let t := s.takeClose c
    (c.good = true → c.overrun = false → (s.classOf b).admissionCount ≤ r.runAfter c →
      (r.geometry = some c.geometry → r.announced = true →
        t = base.putRecord b { ran with
          state := .live, run := 0, consecutiveBad := 0, faults := 0, trial := none, phase := .none, announced := true
          lease := some (s.classOf b).leaseLength, reasons := s.reasonsAfter r.reasons 0x01#5 }) ∧
      (r.geometry = some c.geometry → r.announced = false →
        t = { base with notice.owed := owed }.putRecord b announcing) ∧
      (r.geometry ≠ some c.geometry → (s.classOf b).reshapeAllowed = true →
        t = { base with notice.owed := owed }.putRecord b
          { announcing with reasons := s.reasonsAfter r.reasons 0x08#5 }) ∧
      (r.geometry ≠ some c.geometry → (s.classOf b).reshapeAllowed = false →
        t = ((base.putRecord b ran).beginRetirement b .geometry).grantIfReleased s)) ∧
    (c.good = false → r.pinned = false → (s.classOf b).retireThreshold ≤ faults →
      t = ((base.putRecord b { seen with run := 0, bad := satSucc r.bad, faults := faults }).beginRetirement b
        .fault).grantIfReleased s)

/-! ### Retirement and the timers -/

/-- R109 to R113, R115, R116, R119 with Table 6-B: the course of retirement from each state. A tag held is HELD by the record
(R67). -/
def Obligations.RetirementCourse : Prop :=
  ∀ (s : State) (b : BindingNo) (cause : RetireCause),
    let r := s.record b
    let t := s.beginRetirement b cause
    let caused := { r with cause := some cause }
    let at' := r.atRetirement cause
    (r.state = .free ∨ r.state = .retiring ∨ r.state = .retired → t = s) ∧
    (r.state = .candidate ∨ r.state = .tagWait →
      (r.tag = none →
        t = { s with tags.waitQueue := s.tags.waitQueue.erase b }.putRecord b (s.retiredOrFree caused)) ∧
      ∀ x, r.tag = some x → s.tagEntry x = .held b →
        t = { s with tags := { s.tags with waitQueue := s.tags.waitQueue.erase b }.releasing x }.putRecord b
          (s.retiredOrFree { caused with tag := none })) ∧
    (r.state = .announcing →
      (r.phase = .outstanding → t = s.putRecord b { at' with bindPending := true }) ∧
      (r.phase = .drain ∨ r.phase = .awaitSession → t = s.putRecord b at') ∧
      (r.phase = .owed → r.announced = true → t = s.putRecord b at') ∧
      ∀ x, r.phase = .owed → r.announced = false → r.tag = some x → s.tagEntry x = .held b →
        t = { s with notice.owed := s.notice.owed.erase b, tags := s.tags.releasing x }.putRecord b
          (s.retiredOrFree { caused with tag := none })) ∧
    (r.state = .live ∨ r.state = .suspended ∨ r.state = .silent →
      (0 < r.inFlight → t = s.putRecord b { at' with consecutiveBad := 0, phase := .drain }) ∧
      (r.inFlight = 0 → r.announced = true →
        t = { s with notice.owed := s.notice.owed ++ [b] }.putRecord b
          { at' with consecutiveBad := 0, phase := .owed }) ∧
      (r.inFlight = 0 → r.announced = false → s.notice.session ≠ .up →
        t = s.putRecord b { at' with consecutiveBad := 0, phase := .awaitSession }) ∧
      ∀ x, r.inFlight = 0 → r.announced = false → s.notice.session = .up → r.tag = some x → s.tagEntry x = .held b →
        t = { s with tags := s.tags.releasing x }.putRecord b
          (s.retiredOrFree { at' with consecutiveBad := 0, phase := .drain, tag := none }))

/-- R15, R61 to R64, R102, R103: the lease expiry, by state and pinned flag. It is taken while lease remaining stands at 0
(log 2). `grantIfReleased` takes the grants of a release at hold-off 0 (R76, log 18). -/
def Obligations.LeaseExpiryBranches : Prop :=
  ∀ (s : State) (b : BindingNo), s.awake →
    let r := s.record b
    let fresh := some (s.classOf b).leaseLength
    let gone := { s with tags.waitQueue := s.tags.waitQueue.erase b }.putRecord b BindingRecord.free
    (r.lease ≠ some 0 → exec (.leaseExpiry b) s = .next s) ∧
    (r.lease = some 0 →
      (r.state = .candidate → r.origin = .learnt → r.pinned = false → r.tag = none →
        exec (.leaseExpiry b) s = .next gone.arbitrate) ∧
      (r.state = .candidate → r.origin = .provisioned ∨ r.pinned = true →
        exec (.leaseExpiry b) s = .next (s.putRecord b { r with run := 0, lease := fresh }).arbitrate) ∧
      (r.state = .tagWait → r.pinned = false → r.tag = none → exec (.leaseExpiry b) s = .next gone.arbitrate) ∧
      (r.state = .tagWait → r.pinned = true →
        exec (.leaseExpiry b) s = .next (s.putRecord b { r with lease := fresh }).arbitrate) ∧
      (r.state = .live ∨ r.state = .suspended → r.pinned = false →
        exec (.leaseExpiry b) s = .next ((s.beginRetirement b .lease).grantIfReleased s).arbitrate) ∧
      (r.state = .live ∨ r.state = .suspended → r.pinned = true →
        exec (.leaseExpiry b) s = .next (s.putRecord b { r with
          state := .silent, lease := none, run := 0, consecutiveBad := 0, faults := 0, trial := none
          reasons := s.reasonsAfter r.reasons 0x04#5 }).arbitrate))

/-- R15, R68, R148, R157: a tick of the millisecond timebase. A lease or timer at 0 has its expiry due and stays there (logs 2
and 4). The model's flag of a standing hold-off expiry rises at the tick at which the head of the free list becomes ready
while records wait (R70, log 3). -/
def Obligations.TimebaseTickCounts : Prop :=
  ∀ s : State, s.awake →
    ∃ t, exec .timebaseTick s = .next t ∧
      (∀ b, t.record b = { s.record b with lease := (s.record b).lease.map (· - 1) }) ∧
      (∀ x, t.tagEntry x =
        match s.tagEntry x with
        | .free age => .free (if age < 1023 then age + 1 else 1023)
        | .held b => .held b
        | .stranded q => .stranded q) ∧
      t.notice.hello = s.notice.hello.map (fun h => { h with timer := h.timer.map (· - 1) }) ∧
      t.notice.window = s.notice.window.map (fun e => { e with timer := e.timer.map (· - 1) }) ∧
      (t.tags.holdOffDue = true ↔ s.tags.holdOffDue = true ∨
        s.tags.waitQueue ≠ [] ∧ ∃ x rest age, s.tags.freeList = x :: rest ∧ s.tagEntry x = .free age ∧
          age < s.tags.holdOff ∧ s.tags.holdOff ≤ min (age + 1) 1023) ∧
      { t with
        records := s.records
        tags := { t.tags with table := s.tags.table, holdOffDue := s.tags.holdOffDue }
        notice := { t.notice with hello := s.notice.hello, window := s.notice.window } } = s

/-- R73: a grant event grants ready tags, in free-list order, to waiters in queue order, and stops when the queue or the list
is empty or the head is not ready. HOLD_OFF_EXPIRY is a grant event (R70) and clears the model's due flag (log 3). So is an event that
releases a tag at hold-off 0 (R76), which the model knows by the free list it leaves being longer (log 18). A FREE tag is
ready at an age equal to or above the hold-off (R68), but for none while a hold-off expiry stands for waiters (log 3). -/
def Obligations.GrantEventGrantsInOrder : Prop :=
  (∀ s : State, s.awake →
    exec .holdOffExpiry s = .next ({ s with tags.holdOffDue := false }.grantEvent).arbitrate) ∧
  (∀ before s : State, s.grantIfReleased before =
    if s.tags.holdOff = 0 ∧ before.tags.freeList.length < s.tags.freeList.length then s.grantEvent else s) ∧
  (∀ (s : State) (x : Tag), s.tagReady x = true ↔
    (∃ age, s.tagEntry x = .free age ∧ s.tags.holdOff ≤ age) ∧ (s.tags.holdOffDue = false ∨ s.tags.waitQueue = [])) ∧
  ∀ s : State, s.tags.waitQueue.Nodup → s.tags.freeList.Nodup →
    let t := s.grantEvent
    ∃ n, n ≤ s.tags.waitQueue.length ∧ n ≤ s.tags.freeList.length ∧
      t.tags.waitQueue = s.tags.waitQueue.drop n ∧ t.tags.freeList = s.tags.freeList.drop n ∧
      (∀ p ∈ (s.tags.waitQueue.zip s.tags.freeList).take n,
        t.tagEntry p.2 = .held p.1 ∧ t.record p.1 = s.announcedAs (s.record p.1) p.2) ∧
      (∀ x ∈ s.tags.freeList.take n, s.tagReady x = true) ∧
      (∀ b, b ∉ s.tags.waitQueue.take n → t.record b = s.record b) ∧
      (∀ x, x ∉ s.tags.freeList.take n → t.tagEntry x = s.tagEntry x) ∧
      t.notice = { s.notice with
        owed := if s.notice.session = .up then s.notice.owed ++ s.tags.waitQueue.take n else s.notice.owed } ∧
      (t.tags.waitQueue = [] ∨ ∀ x rest, t.tags.freeList = x :: rest → t.tagReady x = false) ∧
      { t with
        records := s.records, notice := s.notice
        tags := { t.tags with
          table := s.tags.table, waitQueue := s.tags.waitQueue, freeList := s.tags.freeList } } = s

/-- R148, R157 with R79 and R80: the expiry of the HELLO timer and of a window entry's timer, below count 4 and at it. A timer
at 0 has its expiry due (log 4); without one the event changes nothing (log 5). -/
def Obligations.NoticeTimerExpiries : Prop :=
  ∀ s : State, s.awake →
    (∀ h, s.notice.hello = some h → h.timer = some 0 →
      (h.count < 4 → exec .helloTimerExpiry s =
        .next { s with notice.hello := some { h with timer := none, due := true } }.arbitrate) ∧
      (4 ≤ h.count → exec .helloTimerExpiry s = .next { s with
        notice.hello := none, notice.session := .failed, attention.part := s.partAfter 0x08#6 }.arbitrate)) ∧
    ((∀ h, s.notice.hello = some h → h.timer ≠ some 0) → exec .helloTimerExpiry s = .next s) ∧
    (∀ q e, s.windowEntry q = some e → e.timer = some 0 →
      let b := e.binding
      let stranded := { s with
        notice.window := s.notice.window.filter fun x => x.seq != q
        notice.retransmit := s.notice.retransmit.erase q
        tags.table := s.tags.table.set e.tag (.stranded q), tags.strandedCount := s.tags.strandedCount + 1
        attention.part := s.partAfter 0x04#6 }.putRecord b
          (s.retiredOrFree { s.record b with tag := none, strandedNote := true })
      (e.count < 4 → exec (.noticeTimerExpiry q) s = .next { s with
        notice.window := s.notice.window.map fun (x : WindowEntry) => if x.seq = q then { x with timer := none } else x
        notice.retransmit := if q ∈ s.notice.retransmit then s.notice.retransmit
          else s.notice.retransmit ++ [q] }.arbitrate) ∧
      (4 ≤ e.count → e.kind = .bind → exec (.noticeTimerExpiry q) s = .next s.enterResync.arbitrate) ∧
      (4 ≤ e.count → e.kind = .unbind → s.tags.strandedCount + 1 < s.tags.strandedThreshold →
        exec (.noticeTimerExpiry q) s = .next stranded.arbitrate) ∧
      (4 ≤ e.count → e.kind = .unbind → s.tags.strandedThreshold ≤ s.tags.strandedCount + 1 →
        exec (.noticeTimerExpiry q) s = .next stranded.enterResync.arbitrate)) ∧
    ∀ q, (∀ e, s.windowEntry q = some e → e.timer ≠ some 0) → exec (.noticeTimerExpiry q) s = .next s

/-! ### The trunk -/

/-- R137 with R116: the send completion of a DATA frame: cells, counters, the record's in-flight count, and the notice that
the drain moves on. `grantIfReleased` is the model's way to take the grants of a release at hold-off 0 (R76, log 18). -/
def Obligations.SendCompletionReturnsCells : Prop :=
  ∀ (s : State) (d : Descriptor) (bytes : List Byte),
    s.awake → s.trunk.output = .busy .data bytes → s.trunk.queue.find? (·.inTransmission) = some d →
    let base := { s with
      trunk := { s.trunk with queue := s.trunk.queue.eraseP (·.inTransmission) }
      freeCells := s.freeCells + d.cells.length
      counters := { s.counters with framesSent := satSucc s.counters.framesSent } }
    let idle (u : State) : State := { u with trunk := { u.trunk with output := .idle } }
    (d.binding = none → exec .sendCompletion s = .next (idle base).arbitrate) ∧
    ∀ b, d.binding = some b →
      let r := s.record b
      let low := { r with inFlight := r.inFlight - 1 }
      (¬(r.phase = .drain ∧ r.inFlight ≤ 1) →
        exec .sendCompletion s = .next (idle (base.putRecord b low)).arbitrate) ∧
      (r.phase = .drain → r.inFlight ≤ 1 →
        (r.state = .announcing ∧ s.notice.session = .up ∨ r.state = .retiring ∧ r.announced = true →
          exec .sendCompletion s = .next (idle ({ base with notice.owed := s.notice.owed ++ [b] }.putRecord b
            { low with phase := .owed })).arbitrate) ∧
        (r.state = .announcing ∨ r.state = .retiring ∧ r.announced = false → s.notice.session ≠ .up →
          exec .sendCompletion s = .next (idle (base.putRecord b { low with phase := .awaitSession })).arbitrate) ∧
        ∀ x, r.state = .retiring → r.announced = false → s.notice.session = .up → r.tag = some x →
          s.tagEntry x = .held b →
          exec .sendCompletion s = .next (idle (({ base with tags := s.tags.releasing x }.putRecord b
            (s.retiredOrFree { low with tag := none })).grantIfReleased s)).arbitrate)

/-- R136, R148, R157: the end of a notice or the HELLO starts its timer at the notice timeout, unless its entry is due again or
gone, which the model reads off the due flag and the window (log 19). With no notice in transmission the event changes
nothing (log 5). -/
def Obligations.NoticeEndStartsTimer : Prop :=
  ∀ s : State, s.awake →
    (∀ q bytes, s.trunk.output = .busy (.notice q) bytes →
      exec .noticeEnd s = .next { s with
        trunk := { s.trunk with output := .idle }
        notice := { s.notice with
          window := s.notice.window.map fun (e : WindowEntry) =>
            if e.seq = q ∧ q ∉ s.notice.retransmit then { e with timer := some s.notice.timeout } else e } }.arbitrate) ∧
    (∀ bytes, s.trunk.output = .busy .hello bytes →
      exec .noticeEnd s = .next { s with
        trunk := { s.trunk with output := .idle }
        notice := { s.notice with
          hello := s.notice.hello.map fun (h : Hello) =>
            if h.due then h else { h with timer := some s.notice.timeout } } }.arbitrate) ∧
    (s.trunk.output = .idle ∨ (∃ bytes, s.trunk.output = .busy .data bytes) → exec .noticeEnd s = .next s)

/-- R132, R138, R153 with Table 8-C: the line-up and line-down events, with the cut-off of an item in transmission, whose
shortened bytes the model does not keep (log 21). An event that finds the line already there changes nothing (log 5). -/
def Obligations.TrunkLineEvents : Prop :=
  ∀ s : State, s.awake →
    (s.line = .down → exec .lineDown s = .next s ∧
      exec .lineUp s = .next { s with
        line := .up
        notice := { s.notice with
          hello := s.notice.hello.map fun (h : Hello) =>
            if h.due then h else { h with timer := some s.notice.timeout } } }.arbitrate) ∧
    (s.line = .up →
      let down := { s with line := .down, trunk := { s.trunk with output := .idle } }
      let dropped (d : Descriptor) : State := { down with
        trunk := { down.trunk with queue := s.trunk.queue.eraseP (·.inTransmission) }
        freeCells := s.freeCells + d.cells.length
        counters := { s.counters with framesPurged := satSucc s.counters.framesPurged } }
      let lost (u : State) : State :=
        match s.notice.session with
        | .up => u.enterResync
        | .opening | .resync => { u with
            notice := { u.notice with
              hello := u.notice.hello.map fun (h : Hello) => { h with timer := none, due := decide (h.count < 4) } } }
        | .closed | .failed => u
      exec .lineUp s = .next s ∧
      ((∀ bytes, s.trunk.output ≠ .busy .data bytes) → exec .lineDown s = .next (lost down)) ∧
      ∀ d bytes, s.trunk.output = .busy .data bytes → s.trunk.queue.find? (·.inTransmission) = some d →
        (d.binding = none → exec .lineDown s = .next (lost (dropped d))) ∧
        ∀ b, d.binding = some b →
          let r := s.record b
          let low := { r with inFlight := r.inFlight - 1, withheld := satSucc r.withheld }
          (s.notice.session = .up ∨ ¬(r.phase = .drain ∧ r.inFlight ≤ 1) →
            exec .lineDown s = .next (lost ((dropped d).putRecord b low))) ∧
          (s.notice.session ≠ .up → r.phase = .drain → r.inFlight ≤ 1 →
            r.state = .announcing ∨ r.state = .retiring ∧ r.announced = false →
            exec .lineDown s = .next (lost ((dropped d).putRecord b { low with phase := .awaitSession }))))

/-- R133, R197: the CREDIT rule. An increment above 4095 does not pass the check of the Trunk Receiver and is not taken
(log 24). -/
def Obligations.CreditSaturates : Prop :=
  ∀ (s : State) (increment : BitVec 16), s.hears →
    (increment.toNat ≤ 4095 → exec (.credit increment) s = .next { s with
      trunk := { s.trunk with
        credit := if s.trunk.credit + increment.toNat ≤ 4095 then s.trunk.credit + increment.toNat else 4095 } }.arbitrate) ∧
    (4095 < increment.toNat → exec (.credit increment) s = .next s)

/-- R131, R134: whose turn it is at the output: nothing while BUSY or with the line DOWN; a notice first; then the oldest
EXPEDITED descriptor, or without one the oldest NORMAL, begun exactly when R134 lets it, and nothing in its place. -/
def Obligations.ArbiterOrder : Prop :=
  ∀ s : State,
    let t := s.arbitrate
    (s.trunk.output ≠ .idle ∨ s.line = .down → t = s) ∧
    (s.trunk.output = .idle → s.line = .up →
      (∀ o, s.noticeOffer = some o → t.trunk.queue = s.trunk.queue ∧ t.trunk.credit = s.trunk.credit ∧
        ∃ i bytes, t.trunk.output = .busy i bytes ∧ i ≠ .data) ∧
      (s.noticeOffer = none → (∀ x ∈ s.trunk.queue, x.inTransmission = true) → t = s) ∧
      ∀ before d after, s.noticeOffer = none → s.trunk.queue = before ++ d :: after → d.inTransmission = false →
        (∀ x ∈ before, x.priority = d.priority → x.inTransmission = true) →
        (d.priority = .normal → ∀ x ∈ s.trunk.queue, x.priority = .expedited → x.inTransmission = true) →
        let may := d.cells.length ≤ s.trunk.credit ∧ s.notice.session = .up ∧
          ∃ b, d.binding = some b ∧ s.tagEntry d.tag = .held b ∧ (s.record b).announced = true ∧
            (s.record b).phase ≠ .outstanding
        (may → t = { s with trunk :=
          { queue := before ++ { d with inTransmission := true } :: after
            output := .busy .data (dataBytes d), credit := s.trunk.credit - d.cells.length } }) ∧
        (¬may → t = s))

/-- R134, R143, R196: every DATA frame the arbiter begins, in any state, is within the credit, in an UP session, under a tag
HELD by an announced record whose notice phase is not OUTSTANDING, with no notice waiting, and goes out as Table 11-B lays
it out. -/
def Obligations.DataBeginIsAllowed : Prop :=
  ∀ (s : State) (bytes : List Byte), s.trunk.output = .idle → s.arbitrate.trunk.output = .busy .data bytes →
    s.line = .up ∧ s.notice.session = .up ∧ s.noticeOffer = none ∧
    ∃ before d after b, s.trunk.queue = before ++ d :: after ∧ d.inTransmission = false ∧
      s.arbitrate.trunk.queue = before ++ { d with inTransmission := true } :: after ∧
      d.cells.length + s.arbitrate.trunk.credit = s.trunk.credit ∧
      d.binding = some b ∧ s.tagEntry d.tag = .held b ∧ (s.record b).announced = true ∧
      (s.record b).phase ≠ .outstanding ∧
      (d.priority = .normal → ∀ x ∈ s.trunk.queue, x.priority = .expedited → x.inTransmission = true) ∧
      (∃ crc : BitVec 16,
        bytes = [byteOf (d.tag.val + 1), d.frameNumber, byteOf d.cells.length] ++ d.cells.flatten ++
          [crc.extractLsb' 8 8, crc.extractLsb' 0 8] ∧
        crc = crcBytes 0xFFFF#16
          ([byteOf (d.tag.val + 1), d.frameNumber, byteOf d.cells.length] ++ d.cells.flatten)) ∧
      { s.arbitrate with trunk := s.trunk } = s

/-- R148, R155 to R157, R196: what is begun on T0: the due HELLO, then the window entry due longest, then the notice of the
head of the owed list, which takes a window entry with a sequence number that no entry holds. -/
def Obligations.NoticeBeginTakesEntry : Prop :=
  ∀ s : State, s.trunk.output = .idle → s.line = .up →
    let retransmitted (count : Nat) : TrunkCounters :=
      { s.counters with
        retransmitted := if 1 ≤ count then satSucc s.counters.retransmitted else s.counters.retransmitted }
    let out (i : TxItem) (bytes : List Byte) : Transmitter :=
      let crc := crcBytes 0xFFFF#16 bytes
      { s.trunk with output := .busy i (bytes ++ [crc.extractLsb' 8 8, crc.extractLsb' 0 8]) }
    let key (r : BindingRecord) : Byte := byteOf (r.key.link.val * 16 + r.key.stream.val)
    (∀ h, s.notice.hello = some h → h.due = true →
      s.arbitrate = { s with
        counters := retransmitted h.count
        notice := { s.notice with hello := some { h with due := false, count := h.count + 1 } }
        trunk := out .hello [0x00#8, 0x01#8, s.notice.number] }) ∧
    ((∀ h, s.notice.hello = some h → h.due = false) →
      (∀ q rest e, s.notice.retransmit = q :: rest → s.windowEntry q = some e →
        let r := s.record e.binding
        let again (bytes : List Byte) : State := { s with
          counters := retransmitted e.count
          notice := { s.notice with
            retransmit := rest
            window := s.notice.window.map fun (x : WindowEntry) =>
              if x.seq = q then { x with count := x.count + 1, timer := none } else x }
          trunk := out (.notice q) bytes }
        (e.kind = .unbind → s.arbitrate = again [0x00#8, 0x03#8, q, byteOf (e.tag.val + 1)]) ∧
        ∀ g, e.kind = .bind → r.geometry = some g →
          s.arbitrate = again [0x00#8, 0x02#8, q, byteOf (e.tag.val + 1), key r, byteOf g.format.val, byteOf g.cells]) ∧
      ∀ b rest x, s.notice.retransmit = [] → s.notice.session = .up → s.notice.window.length < 4 →
        s.notice.owed = b :: rest → (s.record b).tag = some x →
        let r := s.record b
        ∃ k q, k ≤ s.notice.window.length ∧ q = s.notice.sequence + BitVec.ofNat 8 k ∧
          q ∉ s.notice.window.map (·.seq) ∧
          (∀ j, j < k → s.notice.sequence + BitVec.ofNat 8 j ∈ s.notice.window.map (·.seq)) ∧
          let first (kind : NoticeKind) (bytes : List Byte) : State := { s with
            notice := { s.notice with
              owed := rest, sequence := q + 1
              window := s.notice.window ++
                [({ seq := q, kind := kind, binding := b, tag := x, count := 1, timer := none } : WindowEntry)] }
            trunk := out (.notice q) bytes }.putRecord b { r with phase := .outstanding }
          (r.state = .retiring → s.arbitrate = first .unbind [0x00#8, 0x03#8, q, byteOf (x.val + 1)]) ∧
          ∀ g, r.state = .announcing → r.geometry = some g →
            s.arbitrate = first .bind
              [0x00#8, 0x02#8, q, byteOf (x.val + 1), key r, byteOf g.format.val, byteOf g.cells])

/-! ### The receiver's replies -/

/-- R149, R78, R150: a HELLO-ACK of the current number in OPENING or RESYNC, and a stray one. `grantIfReleased` takes the grants
of the releases at hold-off 0 (R76, log 18). -/
def Obligations.HelloAckBringsSessionUp : Prop :=
  ∀ (s : State) (n : Byte), s.hears →
    (¬(n = s.notice.number ∧ (s.notice.session = .opening ∨ s.notice.session = .resync)) →
      exec (.helloAck n) s = .next { s with
        counters := { s.counters with strayReplies := satSucc s.counters.strayReplies } }) ∧
    (n = s.notice.number → s.notice.session = .opening ∨ s.notice.session = .resync → s.TagLaw →
      let waits (b : BindingNo) (state : RecordState) : Prop :=
        (s.record b).state = state ∧ (s.record b).phase = .awaitSession
      let released (x : Tag) : Prop :=
        (∃ q, s.tagEntry x = .stranded q) ∨ ∃ b, s.tagEntry x = .held b ∧ waits b .retiring
      ∃ (v : State) (freed : List Tag) (owing : List BindingNo),
        exec (.helloAck n) s = .next ((v.grantIfReleased s).raisePart .session).arbitrate ∧
        (∀ x, x ∈ freed ↔ released x) ∧ freed.Pairwise (· < ·) ∧
        (∀ b, b ∈ owing ↔ waits b .announcing) ∧ owing.Pairwise (· < ·) ∧
        v.notice = { s.notice with session := .up, hello := none, owed := s.notice.owed ++ owing } ∧
        v.trunk = { s.trunk with credit := 0 } ∧
        v.tags = { s.tags with table := v.tags.table, freeList := s.tags.freeList ++ freed, strandedCount := 0 } ∧
        (∀ x, released x → v.tagEntry x = .free 0) ∧ (∀ x, ¬released x → v.tagEntry x = s.tagEntry x) ∧
        (∀ b, waits b .retiring → v.record b = s.retiredOrFree { s.record b with tag := none }) ∧
        (∀ b, waits b .announcing → v.record b = { s.record b with phase := .owed }) ∧
        (∀ b, ¬waits b .retiring → ¬waits b .announcing → v.record b = s.record b) ∧
        { v with records := s.records, tags := s.tags, trunk := s.trunk, notice := s.notice } = s)

/-- R158, R159, R77, R86, R82, R163: an ACK that answers a BIND or an UNBIND, a late one and a stray one. `grantIfReleased`
takes the grants of a release at hold-off 0 (R76, log 18). -/
def Obligations.AckOutcomes : Prop :=
  ∀ (s : State) (q : Byte), s.hears →
    (∀ e, s.windowEntry q = some e →
      let b := e.binding
      let r := s.record b
      let gone := { s with notice := { s.notice with
        window := s.notice.window.filter (fun x => x.seq != q), retransmit := s.notice.retransmit.erase q } }
      (e.kind = .bind → r.state = .announcing →
        exec (.ack q) s = .next (gone.putRecord b { r with
          state := .live, run := 0, consecutiveBad := 0, faults := 0, trial := none, phase := .none, announced := true
          lease := some (s.classOf b).leaseLength, reasons := s.reasonsAfter r.reasons 0x01#5 }).arbitrate) ∧
      (e.kind = .bind → r.state = .retiring →
        exec (.ack q) s = .next ({ gone with notice.owed := s.notice.owed ++ [b] }.putRecord b
          { r with announced := true, bindPending := false, phase := .owed }).arbitrate) ∧
      (e.kind = .unbind → s.tagEntry e.tag = .held b →
        exec (.ack q) s = .next (({ gone with tags := s.tags.releasing e.tag }.putRecord b
          (s.retiredOrFree { r with tag := none })).grantIfReleased s).arbitrate)) ∧
    (s.windowEntry q = none →
      (∀ x, (∀ y, s.tagEntry y = .stranded q ↔ y = x) →
        exec (.ack q) s = .next ({ s with
          tags := { s.tags.releasing x with strandedCount := s.tags.strandedCount - 1 } }.grantIfReleased s).arbitrate) ∧
      ((¬∃ x, ∀ y, s.tagEntry y = .stranded q ↔ y = x) →
        exec (.ack q) s = .next { s with
          counters := { s.counters with strayReplies := satSucc s.counters.strayReplies } }.arbitrate))

/-- R160, R161, R82, R163 with Table 8-D: a NAK that refuses a BIND, one that acknowledges an UNBIND or a stranded tag, one
taken as a timeout of its entry, and a stray one. `grantIfReleased` takes the grants of a release at hold-off 0 (R76,
log 18). -/
def Obligations.NakOutcomes : Prop :=
  ∀ (s : State) (q : Byte) (reason : NakReason), s.hears →
    (reason = .unknownTag → (∀ e, s.windowEntry q = some e → e.kind = .unbind) →
      exec (.nak q reason) s = exec (.ack q) s) ∧
    (reason ≠ .unknownTag → s.windowEntry q = none →
      exec (.nak q reason) s = .next { s with
        counters := { s.counters with strayReplies := satSucc s.counters.strayReplies } }.arbitrate) ∧
    ∀ e, s.windowEntry q = some e →
      let b := e.binding
      let r := s.record b
      let gone := { s with notice := { s.notice with
        window := s.notice.window.filter (fun x => x.seq != q), retransmit := s.notice.retransmit.erase q } }
      let owing := { gone with notice.owed := s.notice.owed ++ [b] }
      let freed := { gone with tags := s.tags.releasing e.tag }
      (e.kind = .bind ∧ reason ≠ .noRoom ∨ e.kind = .unbind ∧ reason ≠ .unknownTag →
        exec (.nak q reason) s = exec (.noticeTimerExpiry q) { s with notice := { s.notice with
          window := s.notice.window.map fun (x : WindowEntry) => if x.seq = q then { x with timer := some 0 } else x } }) ∧
      (e.kind = .bind → reason = .noRoom →
        (r.state = .announcing → r.announced = false → s.tagEntry e.tag = .held b →
          exec (.nak q reason) s = .next ((freed.putRecord b
            (s.retiredOrFree { r with cause := some .refused, tag := none })).grantIfReleased s).arbitrate) ∧
        (r.state = .announcing → r.announced = true →
          exec (.nak q reason) s = .next (owing.putRecord b
            { r.atRetirement .refused with phase := .owed }).arbitrate) ∧
        (r.state = .retiring → r.announced = false → s.tagEntry e.tag = .held b →
          exec (.nak q reason) s = .next ((freed.putRecord b
            (s.retiredOrFree { r with bindPending := false, tag := none })).grantIfReleased s).arbitrate) ∧
        (r.state = .retiring → r.announced = true →
          exec (.nak q reason) s = .next (owing.putRecord b
            { r with bindPending := false, phase := .owed }).arbitrate))

/-- R151, R152, R139, R147 with Table 8-B: a RESYNC-REQUEST in UP and outside it, and what the entry to RESYNC does to the queue,
the session and every record. -/
def Obligations.SessionLossMovesRecords : Prop :=
  ∀ s : State,
    (s.hears → s.notice.session = .up → exec .resyncRequest s = .next s.enterResync.arbitrate) ∧
    (s.hears → s.notice.session ≠ .up → exec .resyncRequest s = .next s) ∧
    let t := s.enterResync
    let removed := s.trunk.queue.filter fun d => !d.inTransmission
    t.trunk = { s.trunk with queue := s.trunk.queue.filter (·.inTransmission), credit := 0 } ∧
    t.freeCells = s.freeCells + (removed.map fun d => d.cells.length).sum ∧
    t.counters = { s.counters with framesPurged := satSucc^[removed.length] s.counters.framesPurged } ∧
    t.notice = { s.notice with
      session := .resync, number := s.notice.number + 1, hello := some { count := 0, timer := none, due := true }
      owed := [], window := [], retransmit := [] } ∧
    t.attention = { s.attention with part := s.partAfter 0x08#6 } ∧
    (∀ b, let r := s.record b
      let n := removed.countP fun d => d.binding == some b
      let r' := { r with inFlight := r.inFlight - n, withheld := satSucc^[n] r.withheld, announced := false }
      t.record b =
        match r.state with
        | .live => { r' with
            state := .announcing, lease := none, run := 0, consecutiveBad := 0, trial := none
            phase := if 0 < r'.inFlight then .drain else .awaitSession }
        | .announcing => { r' with
            phase := if r.phase = .drain ∧ 0 < r'.inFlight then .drain else .awaitSession }
        | .retiring => { r' with
            bindPending := false
            phase := if r.phase = .drain ∧ 0 < r'.inFlight then .drain else .awaitSession }
        | .free | .candidate | .tagWait | .suspended | .silent | .retired => r') ∧
    { t with
      records := s.records, trunk := s.trunk, freeCells := s.freeCells, counters := s.counters, notice := s.notice
      attention := s.attention } = s

/-! ### Sweeps -/

/-- R125 to R127: a sweep visit at the cursor: the test, the action, the cursor, and the end of the sweep at 48.
`grantIfReleased` takes the grants of a release at hold-off 0 (R76, log 18). -/
def Obligations.SweepVisitTestsAndActs : Prop :=
  ∀ (s : State) (j : SweepJob) (b : BindingNo),
    s.awake → s.sweep.running = true → s.sweep.job = some j → s.sweep.cursor = b.val →
    let r := s.record b
    let hit := r.state ≠ .free ∧ j.states.getLsbD r.state.code = true ∧ (∀ l, j.link = some l → r.key.link = l) ∧
      (∀ c, j.cls = some c → r.cls = c) ∧ (r.pinned = true → j.pinnedIncluded = true)
    let tested (matched acted : Nat) : State := { s with
      sweep := { s.sweep with matched := s.sweep.matched + matched, acted := s.sweep.acted + acted } }
    let advanced (u : State) : State := { u with
      sweep := { u.sweep with cursor := b.val + 1, running := decide (b.val ≠ 47) }
      attention := { u.attention with part := if b.val = 47 then u.partAfter 0x10#6 else u.attention.part } }
    (¬hit → exec .sweepVisit s = .next (advanced s).arbitrate) ∧
    (hit →
      (j.action = .retire → r.state = .retiring ∨ r.state = .retired →
        exec .sweepVisit s = .next (advanced (tested 1 0)).arbitrate) ∧
      (j.action = .retire → r.state ≠ .retiring → r.state ≠ .retired →
        exec .sweepVisit s =
          .next ((advanced ((tested 1 1).beginRetirement b .sweep)).grantIfReleased s).arbitrate) ∧
      (j.action = .clearCounters →
        exec .sweepVisit s = .next (advanced ((tested 1 1).putRecord b
          { r with forwarded := 0, withheld := 0, bad := 0, gaps := 0 })).arbitrate) ∧
      (j.action = .freeReports → r.state = .retired →
        exec .sweepVisit s = .next (advanced ((tested 1 1).putRecord b BindingRecord.free)).arbitrate) ∧
      (j.action = .freeReports → r.state ≠ .retired →
        exec .sweepVisit s = .next (advanced (tested 1 0)).arbitrate))

/-- R124, R127, R192: SWEEP and ABORT SWEEP, with their responses. That the ALREADY of ABORT SWEEP carries the sweep result is
the model's reading (log 23). -/
def Obligations.SweepCommands : Prop :=
  ∀ s : State,
    (∀ j : SweepJob, s.inHand 0x12#8 →
      s.op 1 = (match j.link with | some l => l.val | none => 255) →
      s.op 2 = (match j.cls with | some c => c.val | none => 255) →
      s.op 3 * 256 + s.op 4 = j.states.toNat → j.states ≠ 0#16 → j.states &&& 0xFE01#16 = 0#16 →
      s.op 5 = flagOp j.pinnedIncluded →
      s.op 6 = (match j.action with | .retire => 1 | .clearCounters => 2 | .freeReports => 3) →
      (s.sweep.running = true → s.refusedWith .sweep 0x12#8) ∧
      (s.sweep.running = false → ∃ t, exec .sweep s = .next t ∧ s.answers t 0x01#8 [0x01#8, 0x00#8, 0x00#8, 0x00#8] ∧
        { t with host := s.host } = { s with
          sweep := { running := true, job := some j, cursor := 0, matched := 0, acted := 0, aborted := false } })) ∧
    (s.inHand 0x13#8 →
      (s.sweep.running = true → ∃ t, exec .abortSweep s = .next t ∧
        s.answers t 0x00#8 [0x02#8, byteOf s.sweep.cursor, byteOf s.sweep.matched, byteOf s.sweep.acted] ∧
        { t with host := s.host } = { s with
          sweep := { s.sweep with running := false, aborted := true }
          attention := { s.attention with part := s.partAfter 0x10#6 } }) ∧
      (s.sweep.running = false → ∃ t, exec .abortSweep s = .next t ∧
        s.answers t 0x02#8 [if s.sweep.aborted then 0x02#8 else 0x00#8, byteOf s.sweep.cursor, byteOf s.sweep.matched,
          byteOf s.sweep.acted] ∧
        { t with host := s.host } = s))

/-! ### The host port -/

/-- R179, R172, R173 with Table 11-D: what a read of any window captures, and that it clears COLLISION at the STATUS window and
changes nothing else. The captured bytes stand in the model's MISO field (log 7). -/
def Obligations.WindowReadCaptures : Prop :=
  ∀ (s : State) (address : BitVec 7) (length : Nat), s.awake →
    ∃ bytes : List Byte, exec (.statusWindowRead address length) s = .next { s with
        host := { s.host with
          miso := some bytes, collision := if address = 0x01#7 then false else s.host.collision } } ∧
      bytes.length = length ∧
      ∀ i, i < length →
        let v := bytes.getD i 0#8
        (address = 0x01#7 → i = 0 →
          v.toNat % 4 = (match s.host.mailbox with | .idle => 0 | .busy => 1 | .done => 2) ∧
          v.getLsbD 2 = s.host.collision ∧
          (v.getLsbD 3 = true ↔ s.attention.part ≠ 0#6 ∨ ∃ b, (s.record b).reasons ≠ 0#5) ∧
          v.toNat / 16 =
            (match s.notice.session with | .closed => 0 | .opening => 1 | .up => 2 | .resync => 3 | .failed => 4)) ∧
        (address = 0x02#7 → i < 6 → ∀ k, k < 8 →
          (v.getLsbD k = true ↔ ∃ b : BindingNo, b.val = 8 * i + k ∧ (s.record b).reasons ≠ 0#5)) ∧
        (address = 0x02#7 → i = 6 → v = s.attention.part.setWidth 8) ∧
        (address = 0x03#7 → ∀ k : Fin 16, i = k.val → v = s.host.command[k]) ∧
        (address = 0x05#7 → ∀ k : Fin 32, i = k.val → v = s.host.response[k]) ∧
        (address = 0x01#7 ∧ 1 ≤ i ∨ address = 0x02#7 ∧ 7 ≤ i ∨ address = 0x03#7 ∧ 16 ≤ i ∨ address = 0x05#7 ∧ 32 ≤ i →
          v = 0x00#8) ∧
        (address ≠ 0x01#7 → address ≠ 0x02#7 → address ≠ 0x03#7 → address ≠ 0x05#7 → v = 0x00#8)

/-- R178, R180, R181, Section 11-4: what command the bits of one transaction are, whatever its incomplete last byte (the bit
order is the model's, log 25), and a write to COMMAND and a write to GO, with the mailbox BUSY and with it IDLE or DONE. -/
def Obligations.MailboxHandshake : Prop :=
  (∀ tail : List Bool, tail.length < 8 → decodeSpi tail = none ∧ ∀ (address : Byte) (data : List Byte),
    let bits := (address :: data).flatMap (fun x => (List.range 8).map fun i => x.getLsbD (7 - i)) ++ tail
    let window := address.setWidth 7
    (address.getLsbD 7 = true → decodeSpi bits = some (.statusWindowRead window data.length)) ∧
    (address.getLsbD 7 = false →
      (window = 0x03#7 → decodeSpi bits = some (.commandWrite data)) ∧
      (window = 0x04#7 → decodeSpi bits = some (.go data)) ∧
      (window ≠ 0x03#7 → window ≠ 0x04#7 → decodeSpi bits = some (.ignoredWrite window data)))) ∧
  ∀ (s : State) (data : List Byte), s.awake →
    (s.host.mailbox = .busy →
      exec (.commandWrite data) s = .next { s with host := { s.host with collision := true } } ∧
      exec (.go data) s = .next { s with host := { s.host with collision := true } }) ∧
    (s.host.mailbox ≠ .busy →
      exec (.go data) s = .next { s with host := { s.host with mailbox := .busy } } ∧
      ∃ block : Vector Byte 16,
        exec (.commandWrite data) s = .next { s with host := { s.host with command := block } } ∧
        ∀ i : Fin 16, block[i] = if h : i.val < data.length then data[i.val] else s.host.command[i])

/-- R183: a command that posts a result code of 10h or above changes nothing of the part, and its response carries the two
codes alone; a code that names no command is UNKNOWN_COMMAND. The command event is the row whose code stands in the block
in hand (log 6). -/
def Obligations.RefusedCommandChangesNothing : Prop :=
  (∀ (c : Instr) (s t : State), exec c s = .next t → s.host.mailbox = .busy → t.host.mailbox = .done →
    0x10 ≤ t.host.response[0].toNat →
    s.answers t t.host.response[0] [] ∧ { t with host := s.host } = s) ∧
  ∀ s : State, s.awake → s.host.mailbox = .busy → s.op 0 = 0 ∨ 20 < s.op 0 → s.refusedWith .unknownCommand 0x10#8

/-- R198 with Table 11-F, Table 1-F and R188: the range check of every command with operands: RANGE when a value lies outside its
range, and never when all lie within. No other byte of the command block is examined. -/
def Obligations.OperandRangesAreChecked : Prop :=
  ∀ s : State,
    let judged (c : Instr) (code : Byte) (passes : Prop) : Prop := s.inHand code →
      (¬passes → s.refusedWith c 0x11#8) ∧
      (passes → ∃ t, exec c s = .next t ∧ t.host.mailbox = .done ∧ t.host.response[0] ≠ 0x11#8)
    judged .status 0x01#8 (s.op 1 ≤ 1) ∧
    judged .readRecord 0x02#8 (s.op 1 ≤ 47 ∧ s.op 2 ≤ 1) ∧
    judged .lookupKey 0x03#8 (s.op 1 ≤ 7 ∧ s.op 2 ≤ 15 ∧ s.op 3 ≤ 1) ∧
    judged .lookupTag 0x04#8 (1 ≤ s.op 1 ∧ s.op 1 ≤ 31 ∧ s.op 2 ≤ 1) ∧
    judged .provision 0x05#8 (s.op 1 ≤ 7 ∧ s.op 2 ≤ 15 ∧ s.op 3 ≤ 3 ∧ s.op 4 ≤ 1 ∧ s.op 5 ≤ 31) ∧
    judged .modify 0x06#8 (s.op 1 ≤ 47 ∧ s.op 2 ≤ 3 ∧ s.op 3 ≤ 1) ∧
    judged .retire 0x07#8 (s.op 1 ≤ 47) ∧
    judged .releaseTag 0x08#8 (1 ≤ s.op 1 ∧ s.op 1 ≤ 31) ∧
    judged .nextAttention 0x09#8 True ∧
    judged .ackAttention 0x0A#8 (s.op 1 = 255 ∧ s.op 2 < 64 ∨ s.op 1 ≤ 47 ∧ s.op 2 < 32) ∧
    judged .setClass 0x0B#8 (s.op 1 ≤ 3 ∧ 1 ≤ s.op 2 ∧ s.op 2 ≤ 15 ∧ 1 ≤ s.op 3 ∧ s.op 3 ≤ 15 ∧ 1 ≤ s.op 4 ∧ s.op 4 ≤ 63 ∧
      10 ≤ s.op 5 * 256 + s.op 6 ∧ s.op 5 * 256 + s.op 6 ≤ 4095 ∧ s.op 7 < 8) ∧
    judged .setLink 0x0C#8 (s.op 1 ≤ 7 ∧ s.op 2 ≤ 1 ∧ s.op 3 ≤ 3) ∧
    judged .readLink 0x0D#8 (s.op 1 ≤ 7 ∧ s.op 2 ≤ 1) ∧
    judged .setTiming 0x0E#8 (1 ≤ s.op 1 ∧ s.op 1 ≤ 255 ∧ s.op 2 * 256 + s.op 3 ≤ 1023 ∧ 1 ≤ s.op 4 ∧ s.op 4 ≤ 8) ∧
    judged .setAttentionEnables 0x0F#8 (s.op 1 < 32 ∧ s.op 2 < 64) ∧
    judged .trunkOpen 0x10#8 True ∧
    judged .trunkClose 0x11#8 True ∧
    judged .sweep 0x12#8 ((s.op 1 ≤ 7 ∨ s.op 1 = 255) ∧ (s.op 2 ≤ 3 ∨ s.op 2 = 255) ∧ (s.op 3 ≠ 0 ∨ s.op 4 ≠ 0) ∧
      s.op 4 % 2 = 0 ∧ s.op 3 ≤ 1 ∧ s.op 5 ≤ 1 ∧ 1 ≤ s.op 6 ∧ s.op 6 ≤ 3) ∧
    judged .abortSweep 0x13#8 True ∧
    judged .restart 0x14#8 True

/-- R184, R199, R83, R142, R165 with Table 11-J: the STATUS command: every reported item recovers from its byte, the timing and
sweep groups stand in the command block, and the clear flag sets the trunk counters to 0 after the report. No tag counts as
ready while a hold-off expiry stands for waiting records (R73, log 3). -/
def Obligations.StatusReports : Prop :=
  ∀ (s : State) (clear : Bool), s.inHand 0x01#8 → s.op 1 = flagOp clear →
    s.notice.window.length ≤ 4 → (∀ h, s.notice.hello = some h → h.count ≤ 4) → s.notice.owed.length ≤ 48 →
    s.trunk.queue.length ≤ 40 → s.trunk.credit ≤ 4095 → s.freeCells ≤ 1536 → s.tags.freeList.length ≤ 31 →
    s.tags.strandedCount ≤ 31 → s.tags.waitQueue.length ≤ 48 → s.counters.inRange → s.notice.timeout ≤ 255 →
    s.tags.holdOff ≤ 1023 → s.tags.strandedThreshold ≤ 8 → s.sweep.cursor ≤ 48 → s.sweep.matched ≤ 48 →
    s.sweep.acted ≤ 48 →
    ∃ t, exec .status s = .next t ∧
      let d (i : Fin 32) : Nat := t.host.response[i].toNat
      let c (i : Fin 16) : Nat := t.host.command[i].toNat
      d 0 = 0x00 ∧ d 1 = 0x01 ∧
      d 2 % 8 =
        (match s.notice.session with | .closed => 0 | .opening => 1 | .up => 2 | .resync => 3 | .failed => 4) ∧
      d 2 / 8 % 8 = s.notice.window.length ∧ d 2 / 64 % 2 = (if s.line = .up then 1 else 0) ∧
      (d 2 / 128 = 1 ↔ ∃ bytes, s.trunk.output = .busy .data bytes) ∧
      d 3 = s.notice.number.toNat ∧
      d 4 % 8 = (match s.notice.hello with | some h => h.count | none => 7) ∧ d 4 / 8 = s.tags.freeList.length ∧
      d 5 = s.notice.sequence.toNat ∧ d 6 = s.notice.owed.length ∧ d 7 = s.trunk.queue.length ∧
      d 8 * 256 + d 9 = s.trunk.credit ∧
      d 10 / 8 = (s.tags.freeList.filter s.tagReady).length ∧ d 10 % 8 * 256 + d 11 = s.freeCells ∧
      d 12 = s.tags.strandedCount ∧ d 13 = s.tags.waitQueue.length ∧ d 14 = s.attention.part.toNat ∧
      d 15 = (Finset.univ.filter fun b => (s.record b).reasons ≠ 0#5).card ∧
      d 16 * 16777216 + d 17 * 65536 + d 18 * 256 + d 19 = s.counters.framesSent ∧
      d 20 * 16777216 + d 21 * 65536 + d 22 * 256 + d 23 = s.counters.framesPurged ∧
      d 24 * 16777216 + d 25 * 65536 + d 26 * 256 + d 27 = s.counters.retransmitted ∧
      d 28 * 16777216 + d 29 * 65536 + d 30 * 256 + d 31 = s.counters.strayReplies ∧
      (∀ i : Fin 16, i.val < 8 → t.host.command[i] = s.host.command[i]) ∧
      c 8 = s.notice.timeout ∧ c 9 * 256 + c 10 = s.tags.holdOff ∧ c 11 = s.tags.strandedThreshold ∧
      c 12 = flagOp s.sweep.running + 2 * flagOp s.sweep.aborted ∧ c 13 = s.sweep.cursor ∧
      c 14 = s.sweep.matched ∧ c 15 = s.sweep.acted ∧
      { t.host with response := s.host.response, command := s.host.command } = { s.host with mailbox := .done } ∧
      { t with host := s.host } = { s with counters := if clear then ⟨0, 0, 0, 0⟩ else s.counters }

/-- R20, Table 11-G: every field of a record recovers from its place in the snapshot. -/
def Obligations.SnapshotLayout : Prop :=
  ∀ (b : BindingNo) (r : BindingRecord) (form : Byte), r.inRange → r.inFlight ≤ 40 → (∀ n, r.lease = some n → n ≤ 4095) →
    (∀ g, r.geometry = some g → g.cells ≤ 96) → (∀ g, r.trial = some g → g.cells ≤ 96) →
    (snapshotBytes b r form).length = 30 ∧
    let d (i : Nat) : Nat := ((snapshotBytes b r form).getD (i - 2) 0#8).toNat
    let flag (x : Bool) : Nat := if x then 1 else 0
    d 2 % 64 = b.val ∧ d 2 / 64 = r.cls.val ∧
    d 3 % 16 = (match r.state with
      | .free => 0 | .candidate => 1 | .tagWait => 2 | .announcing => 3 | .live => 4 | .suspended => 5 | .silent => 6
      | .retiring => 7 | .retired => 8) ∧
    d 3 / 16 = r.consecutiveBad ∧
    d 4 / 16 % 8 = r.key.link.val ∧ d 4 % 16 = r.key.stream.val ∧ d 4 / 128 = flag r.pinned ∧
    d 5 % 32 = (match r.tag with | some x => x.val + 1 | none => 0) ∧
    d 5 / 32 = (match r.cause with
      | none => 0 | some .host => 1 | some .lease => 2 | some .fault => 3 | some .geometry => 4 | some .refused => 5
      | some .linkOff => 6 | some .sweep => 7) ∧
    d 6 % 32 = r.reasons.toNat ∧
    d 6 / 32 = (match r.phase with | .none => 0 | .drain => 1 | .owed => 2 | .outstanding => 3 | .awaitSession => 4) ∧
    d 7 % 128 = (match r.geometry with | some g => g.cells | none => 0) ∧
    d 7 / 128 = (match r.origin with | .provisioned => 1 | .learnt => 0) ∧
    d 8 % 128 = (match r.trial with | some g => g.cells | none => 0) ∧ d 8 / 128 = flag r.lastFrame.isSome ∧
    d 9 % 16 = (match r.geometry with | some g => g.format.val | none => 0) ∧
    d 9 / 16 = (match r.trial with | some g => g.format.val | none => 0) ∧
    (∀ n, r.lastFrame = some n → d 10 = n.toNat) ∧
    d 11 % 64 = r.faults ∧ d 11 / 64 % 2 = flag r.announced ∧ d 11 / 128 = flag r.strandedNote ∧
    d 12 % 64 = r.inFlight ∧ d 12 / 64 = flag r.bindPending ∧
    d 13 / 16 = r.run ∧ d 13 % 16 * 256 + d 14 = (match r.lease with | some n => n | none => 0) ∧
    d 15 = form.toNat ∧
    d 16 * 16777216 + d 17 * 65536 + d 18 * 256 + d 19 = r.forwarded ∧
    d 20 * 16777216 + d 21 * 65536 + d 22 * 256 + d 23 = r.withheld ∧
    d 24 * 16777216 + d 25 * 65536 + d 26 * 256 + d 27 = r.bad ∧
    d 28 * 16777216 + d 29 * 65536 + d 30 * 256 + d 31 = r.gaps

/-! ### Commands on records and tags -/

/-- R9, R20 to R22, R185: READ RECORD, LOOKUP KEY and LOOKUP TAG, with the clear flag. -/
def Obligations.RecordReads : Prop :=
  ∀ (s : State) (clear : Bool),
    let found (c : Instr) (b : BindingNo) : Prop := ∃ t, exec c s = .next t ∧
      s.answers t 0x00#8 (snapshotBytes b (s.record b) 0x00#8) ∧
      { t with host := s.host } = if clear then
        s.putRecord b { s.record b with forwarded := 0, withheld := 0, bad := 0, gaps := 0 } else s
    (∀ b : BindingNo, s.inHand 0x02#8 → s.op 1 = b.val → s.op 2 = flagOp clear → found .readRecord b) ∧
    (∀ (l : LinkNo) (n : StreamNo), s.inHand 0x03#8 → s.op 1 = l.val → s.op 2 = n.val → s.op 3 = flagOp clear →
      s.KeyLaw →
      let shows (b : BindingNo) : Prop := (s.record b).key = ⟨l, n⟩
      let active (b : BindingNo) : Prop := (s.record b).state ≠ .free ∧ (s.record b).state ≠ .retired
      (∀ b, shows b → active b → found .lookupKey b) ∧
      (∀ b, (∀ x, shows x → ¬active x) → shows b → (s.record b).state = .retired →
        (∀ x, x < b → shows x → (s.record x).state ≠ .retired) → found .lookupKey b) ∧
      ((∀ x, shows x → (s.record x).state = .free) → s.refusedWith .lookupKey 0x13#8)) ∧
    ∀ x : Tag, s.inHand 0x04#8 → s.op 1 = x.val + 1 → s.op 2 = flagOp clear →
      (∀ b, s.tagEntry x = .held b → found .lookupTag b) ∧
      ((∀ b, s.tagEntry x ≠ .held b) → s.refusedWith .lookupTag 0x13#8)

/-- R58 to R60, R75, R186: PROVISION: the four conditions in their order, and the record it creates in the lowest-numbered FREE
record. A fixed tag's readiness (R68) while a hold-off expiry stands for waiters is the model's reading (log 3). -/
def Obligations.ProvisionCreates : Prop :=
  ∀ (s : State) (l : LinkNo) (n : StreamNo) (c : ClassNo) (pinned : Bool) (fixed : Option Tag),
    s.inHand 0x05#8 → s.op 1 = l.val → s.op 2 = n.val → s.op 3 = c.val → s.op 4 = flagOp pinned →
    s.op 5 = (match fixed with | some x => x.val + 1 | none => 0) →
    let holds (b : BindingNo) : Prop :=
      (s.record b).key = ⟨l, n⟩ ∧ (s.record b).state ≠ .free ∧ (s.record b).state ≠ .retired
    ((∃ b, holds b) → s.refusedWith .provision 0x14#8) ∧
    ((∀ b, ¬holds b) → (∀ b, (s.record b).state ≠ .free) → s.refusedWith .provision 0x15#8) ∧
    ∀ b, (∀ x, ¬holds x) → (s.record b).state = .free → (∀ x, x < b → (s.record x).state ≠ .free) →
      let made (tag : Option Tag) : BindingRecord := { BindingRecord.free with
        state := .candidate, origin := .provisioned, pinned := pinned, cls := c, key := ⟨l, n⟩, tag := tag
        lease := some s.classes[c].leaseLength }
      let creates (u : State) : Prop := ∃ t, exec .provision s = .next t ∧ s.answers t 0x00#8 [byteOf b.val] ∧
        { t with host := s.host } = u
      (fixed = none → creates (s.putRecord b (made none))) ∧
      ∀ x, fixed = some x →
        ((∀ age, s.tagEntry x ≠ .free age) → s.refusedWith .provision 0x16#8) ∧
        (∀ age, s.tagEntry x = .free age → s.tagReady x = false → s.refusedWith .provision 0x17#8) ∧
        (s.tagReady x = true →
          creates ({ s with tags := { s.tags with
            table := s.tags.table.set x (.held b), freeList := s.tags.freeList.erase x } }.putRecord b (made (some x))))

/-- R23, R121, R187: MODIFY and RETIRE, by the state of the named record. That the ALREADY of RETIRE carries its data is the
model's reading (log 23). RETIRE's response shows the state at the end of the event, its grants included (logs 16, 18). -/
def Obligations.ModifyAndRetire : Prop :=
  ∀ (s : State) (b : BindingNo), s.op 1 = b.val →
    let r := s.record b
    (∀ (c : ClassNo) (pinned : Bool), s.inHand 0x06#8 → s.op 2 = c.val → s.op 3 = flagOp pinned →
      (r.state = .free → s.refusedWith .modify 0x13#8) ∧
      (r.state = .retired → s.refusedWith .modify 0x18#8) ∧
      (r.state ≠ .free → r.state ≠ .retired → ∃ t, exec .modify s = .next t ∧
        s.answers t 0x00#8 [byteOf b.val, byteOf c.val, byteOf (flagOp pinned), byteOf r.state.code] ∧
        { t with host := s.host } = s.putRecord b { r with cls := c, pinned := pinned })) ∧
    (s.inHand 0x07#8 →
      (r.state = .free → s.refusedWith .retire 0x13#8) ∧
      (r.state = .retired → s.refusedWith .retire 0x18#8) ∧
      (r.state = .retiring → ∃ t, exec .retire s = .next t ∧ s.answers t 0x02#8 [byteOf b.val, 0x07#8] ∧
        { t with host := s.host } = s) ∧
      (r.state ≠ .free → r.state ≠ .retired → r.state ≠ .retiring → ∃ t, exec .retire s = .next t ∧
        s.answers t 0x00#8 [byteOf b.val, byteOf (t.record b).state.code] ∧
        { t with host := s.host } = ((s.beginRetirement b .host).grantIfReleased s).arbitrate))

/-! ### Settings -/

/-- R11, R69, R81, R171, R188, R190: SET CLASS, SET TIMING, SET ATTENTION ENABLES and RELEASE TAG. SET TIMING is a grant event,
which grants nothing with the hold-off unchanged or raised and no ready head while records wait. That a hold-off expiry that
stands to be taken stands on unless the hold-off is lowered is the model's reading (log 3). `grantIfReleased` takes the grants
of a release at hold-off 0 (R76, log 18). -/
def Obligations.SettingsCommands : Prop :=
  ∀ s : State,
    (∀ (c : ClassNo) (p : PolicyClass), s.inHand 0x0B#8 → s.op 1 = c.val → s.op 2 = p.admissionCount →
      s.op 3 = p.faultThreshold → s.op 4 = p.retireThreshold → s.op 5 * 256 + s.op 6 = p.leaseLength →
      s.op 7 = flagOp (p.priority == .expedited) + 2 * flagOp p.reshapeAllowed + 4 * flagOp p.autoClear →
      1 ≤ p.admissionCount → p.admissionCount ≤ 15 → 1 ≤ p.faultThreshold → p.faultThreshold ≤ 15 →
      1 ≤ p.retireThreshold → p.retireThreshold ≤ 63 → 10 ≤ p.leaseLength → p.leaseLength ≤ 4095 →
      ∃ t, exec .setClass s = .next t ∧ s.answers t 0x00#8 [] ∧
        { t with host := s.host } = { s with classes := s.classes.set c p }) ∧
    (s.inHand 0x0E#8 → 1 ≤ s.op 1 → s.op 2 * 256 + s.op 3 ≤ 1023 → 1 ≤ s.op 4 → s.op 4 ≤ 8 →
      let holdOff := s.op 2 * 256 + s.op 3
      let written : State := { s with
        notice := { s.notice with timeout := s.op 1 }
        tags := { s.tags with
          holdOff := holdOff, strandedThreshold := s.op 4
          holdOffDue := if holdOff < s.tags.holdOff then false else s.tags.holdOffDue } }
      (∃ t, exec .setTiming s = .next t ∧ s.answers t 0x00#8 [] ∧
        { t with host := s.host } = written.grantEvent.arbitrate) ∧
      (s.tags.holdOff ≤ holdOff → s.HeadLaw → written.grantEvent = written)) ∧
    (s.inHand 0x0F#8 → s.op 1 < 32 → s.op 2 < 64 →
      ∃ t, exec .setAttentionEnables s = .next t ∧ s.answers t 0x00#8 [] ∧
        { t with host := s.host } = { s with attention := { s.attention with
          recordEnables := BitVec.ofNat 5 (s.op 1), partEnables := BitVec.ofNat 6 (s.op 2) } }) ∧
    ∀ x : Tag, s.inHand 0x08#8 → s.op 1 = x.val + 1 →
      ((∀ q, s.tagEntry x ≠ .stranded q) → s.refusedWith .releaseTag 0x18#8) ∧
      ∀ q, s.tagEntry x = .stranded q → ∃ t, exec .releaseTag s = .next t ∧
        s.answers t 0x00#8 [byteOf (x.val + 1), byteOf t.tags.strandedCount] ∧
        { t with host := s.host } = ({ s with
          tags := { s.tags.releasing x with strandedCount := s.tags.strandedCount - 1 } }.grantIfReleased s).arbitrate

/-- R120, R174, R175, R190: NEXT ATTENTION in its three forms, and ACK ATTENTION of a record and of PART. -/
def Obligations.AttentionCommands : Prop :=
  ∀ s : State,
    let has (b : BindingNo) : Prop := (s.record b).reasons ≠ 0#5
    (s.inHand 0x09#8 →
      (s.attention.part ≠ 0#6 → ∃ t, exec .nextAttention s = .next t ∧
        s.answers t 0x00#8 ([s.attention.part.setWidth 8, byteOf (Finset.univ.filter has).card] ++
          List.replicate 11 0x00#8 ++ [0x01#8]) ∧
        { t with host := s.host } = s) ∧
      (s.attention.part = 0#6 → (∀ b, ¬has b) → ∃ t, exec .nextAttention s = .next t ∧ s.answers t 0x00#8 [] ∧
        { t with host := s.host } = s) ∧
      ∀ b, s.attention.part = 0#6 → has b →
        s.attention.cursor ≤ b ∧ (∀ x, s.attention.cursor ≤ x → x < b → ¬has x) ∨
          b < s.attention.cursor ∧ (∀ x, s.attention.cursor ≤ x ∨ x < b → ¬has x) →
        ∃ t, exec .nextAttention s = .next t ∧ s.answers t 0x00#8 (snapshotBytes b (s.record b) 0x02#8) ∧
          t.attention.cursor.val = (if b.val = 47 then 0 else b.val + 1) ∧
          { t with
            host := s.host
            attention := { t.attention with cursor := s.attention.cursor } } = s) ∧
    (s.inHand 0x0A#8 →
      (s.op 1 = 255 → s.op 2 < 64 →
        let left := s.attention.part &&& ~~~(BitVec.ofNat 6 (s.op 2))
        ∃ t, exec .ackAttention s = .next t ∧ s.answers t 0x00#8 [0xFF#8, left.setWidth 8, 0x00#8] ∧
          { t with host := s.host } = { s with attention := { s.attention with part := left } }) ∧
      ∀ b : BindingNo, s.op 1 = b.val → s.op 2 < 32 →
        let r := s.record b
        let left := r.reasons &&& ~~~(BitVec.ofNat 5 (s.op 2))
        (r.state = .retired → 16 ≤ s.op 2 →
          ∃ t, exec .ackAttention s = .next t ∧ s.answers t 0x00#8 [byteOf b.val, 0x00#8, 0x00#8] ∧
            { t with host := s.host } = s.putRecord b BindingRecord.free) ∧
        (r.state ≠ .retired ∨ s.op 2 < 16 →
          ∃ t, exec .ackAttention s = .next t ∧
            s.answers t 0x00#8 [byteOf b.val, left.setWidth 8, byteOf r.state.code] ∧
            { t with host := s.host } = s.putRecord b { r with reasons := left }))

/-- R28, R31, R44, R123, R189: SET LINK for ENABLE and DISABLE, and READ LINK with its snapshot. The count in SET LINK's
response is of the records active on the link and not yet RETIRING, as the event finds them (log 17). `grantIfReleased` takes
the grants of a release at hold-off 0 (R76, log 18). -/
def Obligations.LinkCommands : Prop :=
  ∀ (s : State) (l : LinkNo), s.op 1 = l.val →
    let f := s.feeder l
    (∀ c : ClassNo, s.inHand 0x0C#8 → s.op 3 = c.val →
      (s.op 2 = 1 → f.state = .disabled → ∃ t, exec .setLink s = .next t ∧ s.answers t 0x00#8 [0x01#8, 0x00#8] ∧
        { t with host := s.host } = { s with
          attention := { s.attention with part := s.partAfter 0x20#6 } }.putFeeder l
            { f with state := .seeking, defaultClass := c }) ∧
      (s.op 2 = 1 → f.state ≠ .disabled → ∃ t, exec .setLink s = .next t ∧
        s.answers t 0x00#8 [if f.state = .up then 0x02#8 else 0x01#8, 0x00#8] ∧
        { t with host := s.host } = s.putFeeder l { f with defaultClass := c }) ∧
      (s.op 2 = 0 → ∃ (t : State) (ends : List BindingNo), exec .setLink s = .next t ∧
        ends.Pairwise (· < ·) ∧
        (∀ b, b ∈ ends ↔ (s.record b).key.link = l ∧ (s.record b).state ≠ .free ∧ (s.record b).state ≠ .retired ∧
          (s.record b).state ≠ .retiring) ∧
        s.answers t 0x00#8 [0x00#8, byteOf ends.length] ∧
        { t with host := s.host } = ((ends.foldl (fun (u : State) b => u.beginRetirement b .linkOff)
          (State.putFeeder { s with
            freeCells := s.freeCells + (match f.frame with | some x => x.cells.length | none => 0)
            attention := { s.attention with
              part := if f.state = .disabled then s.attention.part else s.partAfter 0x20#6 } } l
            { f with state := .disabled, frame := none, defaultClass := c })).grantIfReleased s).arbitrate)) ∧
    ∀ clear : Bool, s.inHand 0x0D#8 → s.op 2 = flagOp clear → f.inRange →
      (∀ x, f.frame = some x → x.cellsReceived ≤ 97) →
      ∃ t, exec .readLink s = .next t ∧
        let d (i : Fin 32) : Nat := t.host.response[i].toNat
        d 0 = 0x00 ∧ d 1 = 0x0D ∧ d 2 = l.val ∧
        d 3 % 4 = (match f.state with | .disabled => 0 | .seeking => 1 | .up => 2) ∧
        d 3 / 4 % 4 = f.defaultClass.val ∧ d 3 / 16 = (if f.frame.isSome then 1 else 0) ∧
        d 4 = (match f.frame with | some x => x.stream.val | none => 0) ∧
        d 5 = (match f.frame with | some x => x.cellsReceived | none => 0) ∧
        d 6 * 16777216 + d 7 * 65536 + d 8 * 256 + d 9 = f.framesSeen ∧
        d 10 * 16777216 + d 11 * 65536 + d 12 * 256 + d 13 = f.badFrames ∧
        d 14 * 16777216 + d 15 * 65536 + d 16 * 256 + d 17 = f.overruns ∧
        d 18 * 16777216 + d 19 * 65536 + d 20 * 256 + d 21 = f.refused ∧
        d 22 * 16777216 + d 23 * 65536 + d 24 * 256 + d 25 = f.discarded ∧
        d 26 * 16777216 + d 27 * 65536 + d 28 * 256 + d 29 = f.lockLosses ∧ d 30 = 0 ∧ d 31 = 0 ∧
        { t.host with response := s.host.response } = { s.host with mailbox := .done } ∧
        { t with host := s.host } = if clear then s.putFeeder l
          { f with framesSeen := 0, badFrames := 0, overruns := 0, refused := 0, discarded := 0, lockLosses := 0 } else s

/-- R146, R147, R191: TRUNK OPEN and TRUNK CLOSE by the session state. From an open session TRUNK CLOSE loses the session as the
entry to RESYNC does, and ends CLOSED with no HELLO. That a close from FAILED raises SESSION is the model's reading of R145
(log 12), and that ALREADY carries the session state and number is its reading of R191 (log 23). -/
def Obligations.TrunkCommands : Prop :=
  ∀ s : State,
    let raised : AttentionUnit := { s.attention with part := s.partAfter 0x08#6 }
    (s.inHand 0x10#8 →
      (s.notice.session = .closed → ∃ t, exec .trunkOpen s = .next t ∧
        s.answers t 0x00#8 [0x01#8, s.notice.number + 1] ∧
        { t with host := s.host } = { s with
          notice := { s.notice with
            session := .opening, number := s.notice.number + 1, hello := some ⟨0, none, true⟩ }
          attention := raised }.arbitrate) ∧
      (s.notice.session ≠ .closed → s.refusedWith .trunkOpen 0x19#8)) ∧
    (s.inHand 0x11#8 →
      (s.notice.session = .closed → ∃ t, exec .trunkClose s = .next t ∧ s.answers t 0x02#8 [0x00#8, s.notice.number] ∧
        { t with host := s.host } = s) ∧
      (s.notice.session = .failed → ∃ t, exec .trunkClose s = .next t ∧ s.answers t 0x00#8 [0x00#8, s.notice.number] ∧
        { t with host := s.host } = { s with notice := { s.notice with session := .closed }, attention := raised }) ∧
      (s.notice.session ≠ .closed → s.notice.session ≠ .failed → ∃ t, exec .trunkClose s = .next t ∧
        s.answers t 0x00#8 [0x00#8, s.notice.number] ∧
        { t with host := s.host } = { s.enterResync with
          notice := { s.enterResync.notice with
            session := .closed, number := s.notice.number, hello := none } }.arbitrate))

/-! ### The laws of the part -/

/-- The laws of `State.Lawful` hold at power-on reset: cells, capacities, ranges of counts and of other values, the window's
transmission counts, leases, the RETIRED reason, session, notices, keys, tags, the head of the free list, what a record holds by
its state (R2), in-flight counts and the quiet output. -/
def Obligations.LawsHoldAtReset : Prop := State.reset.Lawful

/-- R39, R40, R42, R46: the free cells, the cells held by open frames and the cells held by descriptors total 1536, and only an UP
link has a frame open: every step keeps it. -/
def Obligations.CellLawKept : Prop := ∀ s t : State, s.CellLaw → step s = .next t → t.CellLaw

/-- R3, R19, R43, R129, R133, R141, R155, R164: every step keeps the egress queue, the credit, the window and every counter within
its range; R11, R32, R67, R69, R124, R145 and Table 1-A: every setting, age, lease remaining (log 2), geometry, sweep result and
HELLO count too; R155, R157: the transmission counts of the window; and R5: in-flight. -/
def Obligations.CapacityAndRangeLawsKept : Prop :=
  ∀ s t : State, step s = .next t →
    (s.CapacityLaw → s.RangeLaw → t.CapacityLaw ∧ t.RangeLaw) ∧ (s.BoundLaw → t.BoundLaw) ∧
    (s.NoticeLaw → s.WindowLaw → t.WindowLaw) ∧
    (s.CapacityLaw → s.RangeLaw → s.NoticeLaw → s.FlightLaw → ∀ b, (t.record b).inFlight ≤ 40)

/-- R15, R169: every step keeps the leases running in exactly the states of R15 and the RETIRED reason pending on every RETIRED
record. -/
def Obligations.LeaseAndReasonLawsKept : Prop :=
  ∀ s t : State, s.LeaseLaw → s.ReasonLaw → step s = .next t → t.LeaseLaw ∧ t.ReasonLaw

/-- R86, R145, R152: every step keeps the window, the owed list, the announced flags and the LIVE records inside an UP session. -/
def Obligations.SessionLawKept : Prop := ∀ s t : State, s.SessionLaw → step s = .next t → t.SessionLaw

/-- R71, R154 to R156, R165: every step keeps each record once on the list its phase or state names. -/
def Obligations.NoticeLawKept : Prop := ∀ s t : State, s.NoticeLaw → step s = .next t → t.NoticeLaw

/-- R8: every step keeps the active records' keys distinct. -/
def Obligations.KeyLawKept : Prop := ∀ s t : State, s.NoticeLaw → s.KeyLaw → step s = .next t → t.KeyLaw

/-- R2, R67, R68, R80: every step keeps tags and records in agreement, and R73: with no ready head of the free list while a
record waits (log 3 while a hold-off expiry stands). R2: every step keeps a geometry absent in FREE and CANDIDATE and present
from TAG_WAIT through RETIRING, and a learnt CANDIDATE without a tag. -/
def Obligations.TagLawKept : Prop :=
  ∀ s t : State, s.NoticeLaw → step s = .next t →
    (s.TagLaw → t.TagLaw ∧ (s.HeadLaw → t.HeadLaw)) ∧ (s.HoldingLaw → t.HoldingLaw)

/-- R5, R134: every step keeps the in-flight counts equal to the descriptors, and above 0 only where descriptors may wait. -/
def Obligations.FlightLawKept : Prop := ∀ s t : State, s.NoticeLaw → s.FlightLaw → step s = .next t → t.FlightLaw

/-- R131: after every step the output is BUSY, or the line is DOWN, or there is nothing the arbiter may begin. -/
def Obligations.QuietKept : Prop := ∀ s t : State, s.NoticeLaw → s.Quiet → step s = .next t → t.Quiet
end

