-- ==== Sys2Proof/Laws/Decode.lean ====
section
/-! SUPPORT. The bytes of an SPI transaction from its bits (R178). -/

namespace Sys2Proof

/-- The bits of a byte in the order in which they are clocked, bit 7 first (log 25). -/
def bitsOf (x : Byte) : List Bool := (List.range 8).map fun i => x.getLsbD (7 - i)

theorem bitsOf_eq (x : Byte) :
    bitsOf x = [x.getLsbD 7, x.getLsbD 6, x.getLsbD 5, x.getLsbD 4, x.getLsbD 3, x.getLsbD 2, x.getLsbD 1, x.getLsbD 0] :=
  rfl

theorem byteOfBits_bitsOf (x : Byte) : byteOfBits (bitsOf x) = x := by revert x; decide +kernel

/-- Fewer than eight bits are no byte. -/
theorem wholeBytes_short {tail : List Bool} (h : tail.length < 8) : wholeBytes tail = [] := by
  match tail with
  | [] | [_] | [_, _] | [_, _, _] | [_, _, _, _] | [_, _, _, _, _] | [_, _, _, _, _, _] | [_, _, _, _, _, _, _] => rfl
  | _ :: _ :: _ :: _ :: _ :: _ :: _ :: _ :: rest => simp only [List.length_cons] at h; omega

/-- R178: the whole bytes come through, and a byte left incomplete is discarded. -/
theorem wholeBytes_bits (data : List Byte) {tail : List Bool} (h : tail.length < 8) :
    wholeBytes (data.flatMap bitsOf ++ tail) = data := by
  induction data with
  | nil => exact wholeBytes_short h
  | cons x rest ih =>
    have hx := byteOfBits_bitsOf x
    rw [bitsOf_eq] at hx
    simp only [List.flatMap_cons, bitsOf_eq, List.cons_append, List.nil_append, wholeBytes, hx, ih]

/-- R178: a transaction is the command of its whole bytes, address byte first. -/
theorem decodeSpi_bits (address : Byte) (data : List Byte) {tail : List Bool} (h : tail.length < 8) :
    decodeSpi ((address :: data).flatMap bitsOf ++ tail) = some (decodeTransaction address data) := by
  simp only [decodeSpi, wholeBytes_bits _ h]

end Sys2Proof
end

