-- ==== Sys2Proof/Laws/State.lean ====
section
/-! SUPPORT. The small lemmas of the state: one per field per basic update, true by `rfl`, and what a numbered table reads
after a write to it. -/

namespace Sys2Proof.Machine

/-! ### `State.updateRecord` -/

@[simp] theorem State.updateRecord_records (s : State) (b : BindingNo) (f : BindingRecord → BindingRecord) :
    (s.updateRecord b f).records = s.records.set b (f s.records[b]) := rfl
@[simp] theorem State.updateRecord_classes (s : State) (b : BindingNo) (f : BindingRecord → BindingRecord) :
    (s.updateRecord b f).classes = s.classes := rfl
@[simp] theorem State.updateRecord_feeders (s : State) (b : BindingNo) (f : BindingRecord → BindingRecord) :
    (s.updateRecord b f).feeders = s.feeders := rfl
@[simp] theorem State.updateRecord_freeCells (s : State) (b : BindingNo) (f : BindingRecord → BindingRecord) :
    (s.updateRecord b f).freeCells = s.freeCells := rfl
@[simp] theorem State.updateRecord_tags (s : State) (b : BindingNo) (f : BindingRecord → BindingRecord) :
    (s.updateRecord b f).tags = s.tags := rfl
@[simp] theorem State.updateRecord_trunk (s : State) (b : BindingNo) (f : BindingRecord → BindingRecord) :
    (s.updateRecord b f).trunk = s.trunk := rfl
@[simp] theorem State.updateRecord_line (s : State) (b : BindingNo) (f : BindingRecord → BindingRecord) :
    (s.updateRecord b f).line = s.line := rfl
@[simp] theorem State.updateRecord_counters (s : State) (b : BindingNo) (f : BindingRecord → BindingRecord) :
    (s.updateRecord b f).counters = s.counters := rfl
@[simp] theorem State.updateRecord_notice (s : State) (b : BindingNo) (f : BindingRecord → BindingRecord) :
    (s.updateRecord b f).notice = s.notice := rfl
@[simp] theorem State.updateRecord_sweep (s : State) (b : BindingNo) (f : BindingRecord → BindingRecord) :
    (s.updateRecord b f).sweep = s.sweep := rfl
@[simp] theorem State.updateRecord_attention (s : State) (b : BindingNo) (f : BindingRecord → BindingRecord) :
    (s.updateRecord b f).attention = s.attention := rfl
@[simp] theorem State.updateRecord_host (s : State) (b : BindingNo) (f : BindingRecord → BindingRecord) :
    (s.updateRecord b f).host = s.host := rfl
@[simp] theorem State.updateRecord_resetAsserted (s : State) (b : BindingNo) (f : BindingRecord → BindingRecord) :
    (s.updateRecord b f).resetAsserted = s.resetAsserted := rfl
@[simp] theorem State.updateRecord_pending (s : State) (b : BindingNo) (f : BindingRecord → BindingRecord) :
    (s.updateRecord b f).pending = s.pending := rfl

/-! ### `State.updateFeeder` -/

@[simp] theorem State.updateFeeder_records (s : State) (l : LinkNo) (f : FeederLink → FeederLink) :
    (s.updateFeeder l f).records = s.records := rfl
@[simp] theorem State.updateFeeder_classes (s : State) (l : LinkNo) (f : FeederLink → FeederLink) :
    (s.updateFeeder l f).classes = s.classes := rfl
@[simp] theorem State.updateFeeder_feeders (s : State) (l : LinkNo) (f : FeederLink → FeederLink) :
    (s.updateFeeder l f).feeders = s.feeders.set l (f s.feeders[l]) := rfl
@[simp] theorem State.updateFeeder_freeCells (s : State) (l : LinkNo) (f : FeederLink → FeederLink) :
    (s.updateFeeder l f).freeCells = s.freeCells := rfl
@[simp] theorem State.updateFeeder_tags (s : State) (l : LinkNo) (f : FeederLink → FeederLink) :
    (s.updateFeeder l f).tags = s.tags := rfl
@[simp] theorem State.updateFeeder_trunk (s : State) (l : LinkNo) (f : FeederLink → FeederLink) :
    (s.updateFeeder l f).trunk = s.trunk := rfl
@[simp] theorem State.updateFeeder_line (s : State) (l : LinkNo) (f : FeederLink → FeederLink) :
    (s.updateFeeder l f).line = s.line := rfl
@[simp] theorem State.updateFeeder_counters (s : State) (l : LinkNo) (f : FeederLink → FeederLink) :
    (s.updateFeeder l f).counters = s.counters := rfl
@[simp] theorem State.updateFeeder_notice (s : State) (l : LinkNo) (f : FeederLink → FeederLink) :
    (s.updateFeeder l f).notice = s.notice := rfl
@[simp] theorem State.updateFeeder_sweep (s : State) (l : LinkNo) (f : FeederLink → FeederLink) :
    (s.updateFeeder l f).sweep = s.sweep := rfl
@[simp] theorem State.updateFeeder_attention (s : State) (l : LinkNo) (f : FeederLink → FeederLink) :
    (s.updateFeeder l f).attention = s.attention := rfl
@[simp] theorem State.updateFeeder_host (s : State) (l : LinkNo) (f : FeederLink → FeederLink) :
    (s.updateFeeder l f).host = s.host := rfl
@[simp] theorem State.updateFeeder_resetAsserted (s : State) (l : LinkNo) (f : FeederLink → FeederLink) :
    (s.updateFeeder l f).resetAsserted = s.resetAsserted := rfl
@[simp] theorem State.updateFeeder_pending (s : State) (l : LinkNo) (f : FeederLink → FeederLink) :
    (s.updateFeeder l f).pending = s.pending := rfl

/-! ### `State.putRecord` -/

@[simp] theorem State.putRecord_records (s : State) (b : BindingNo) (r : BindingRecord) :
    (s.putRecord b r).records = s.records.set b r := rfl
@[simp] theorem State.putRecord_classes (s : State) (b : BindingNo) (r : BindingRecord) :
    (s.putRecord b r).classes = s.classes := rfl
@[simp] theorem State.putRecord_feeders (s : State) (b : BindingNo) (r : BindingRecord) :
    (s.putRecord b r).feeders = s.feeders := rfl
@[simp] theorem State.putRecord_freeCells (s : State) (b : BindingNo) (r : BindingRecord) :
    (s.putRecord b r).freeCells = s.freeCells := rfl
@[simp] theorem State.putRecord_tags (s : State) (b : BindingNo) (r : BindingRecord) :
    (s.putRecord b r).tags = s.tags := rfl
@[simp] theorem State.putRecord_trunk (s : State) (b : BindingNo) (r : BindingRecord) :
    (s.putRecord b r).trunk = s.trunk := rfl
@[simp] theorem State.putRecord_line (s : State) (b : BindingNo) (r : BindingRecord) :
    (s.putRecord b r).line = s.line := rfl
@[simp] theorem State.putRecord_counters (s : State) (b : BindingNo) (r : BindingRecord) :
    (s.putRecord b r).counters = s.counters := rfl
@[simp] theorem State.putRecord_notice (s : State) (b : BindingNo) (r : BindingRecord) :
    (s.putRecord b r).notice = s.notice := rfl
@[simp] theorem State.putRecord_sweep (s : State) (b : BindingNo) (r : BindingRecord) :
    (s.putRecord b r).sweep = s.sweep := rfl
@[simp] theorem State.putRecord_attention (s : State) (b : BindingNo) (r : BindingRecord) :
    (s.putRecord b r).attention = s.attention := rfl
@[simp] theorem State.putRecord_host (s : State) (b : BindingNo) (r : BindingRecord) :
    (s.putRecord b r).host = s.host := rfl
@[simp] theorem State.putRecord_resetAsserted (s : State) (b : BindingNo) (r : BindingRecord) :
    (s.putRecord b r).resetAsserted = s.resetAsserted := rfl
@[simp] theorem State.putRecord_pending (s : State) (b : BindingNo) (r : BindingRecord) :
    (s.putRecord b r).pending = s.pending := rfl

/-! ### `State.putFeeder` -/

@[simp] theorem State.putFeeder_records (s : State) (l : LinkNo) (f : FeederLink) :
    (s.putFeeder l f).records = s.records := rfl
@[simp] theorem State.putFeeder_classes (s : State) (l : LinkNo) (f : FeederLink) :
    (s.putFeeder l f).classes = s.classes := rfl
@[simp] theorem State.putFeeder_feeders (s : State) (l : LinkNo) (f : FeederLink) :
    (s.putFeeder l f).feeders = s.feeders.set l f := rfl
@[simp] theorem State.putFeeder_freeCells (s : State) (l : LinkNo) (f : FeederLink) :
    (s.putFeeder l f).freeCells = s.freeCells := rfl
@[simp] theorem State.putFeeder_tags (s : State) (l : LinkNo) (f : FeederLink) : (s.putFeeder l f).tags = s.tags := rfl
@[simp] theorem State.putFeeder_trunk (s : State) (l : LinkNo) (f : FeederLink) :
    (s.putFeeder l f).trunk = s.trunk := rfl
@[simp] theorem State.putFeeder_line (s : State) (l : LinkNo) (f : FeederLink) : (s.putFeeder l f).line = s.line := rfl
@[simp] theorem State.putFeeder_counters (s : State) (l : LinkNo) (f : FeederLink) :
    (s.putFeeder l f).counters = s.counters := rfl
@[simp] theorem State.putFeeder_notice (s : State) (l : LinkNo) (f : FeederLink) :
    (s.putFeeder l f).notice = s.notice := rfl
@[simp] theorem State.putFeeder_sweep (s : State) (l : LinkNo) (f : FeederLink) :
    (s.putFeeder l f).sweep = s.sweep := rfl
@[simp] theorem State.putFeeder_attention (s : State) (l : LinkNo) (f : FeederLink) :
    (s.putFeeder l f).attention = s.attention := rfl
@[simp] theorem State.putFeeder_host (s : State) (l : LinkNo) (f : FeederLink) : (s.putFeeder l f).host = s.host := rfl
@[simp] theorem State.putFeeder_resetAsserted (s : State) (l : LinkNo) (f : FeederLink) :
    (s.putFeeder l f).resetAsserted = s.resetAsserted := rfl
@[simp] theorem State.putFeeder_pending (s : State) (l : LinkNo) (f : FeederLink) :
    (s.putFeeder l f).pending = s.pending := rfl

/-! ### `State.setTagEntry` -/

@[simp] theorem State.setTagEntry_records (s : State) (x : Tag) (e : TagEntry) :
    (s.setTagEntry x e).records = s.records := rfl
@[simp] theorem State.setTagEntry_classes (s : State) (x : Tag) (e : TagEntry) :
    (s.setTagEntry x e).classes = s.classes := rfl
@[simp] theorem State.setTagEntry_feeders (s : State) (x : Tag) (e : TagEntry) :
    (s.setTagEntry x e).feeders = s.feeders := rfl
@[simp] theorem State.setTagEntry_freeCells (s : State) (x : Tag) (e : TagEntry) :
    (s.setTagEntry x e).freeCells = s.freeCells := rfl
@[simp] theorem State.setTagEntry_tags (s : State) (x : Tag) (e : TagEntry) :
    (s.setTagEntry x e).tags = { s.tags with table := s.tags.table.set x e } := rfl
@[simp] theorem State.setTagEntry_trunk (s : State) (x : Tag) (e : TagEntry) :
    (s.setTagEntry x e).trunk = s.trunk := rfl
@[simp] theorem State.setTagEntry_line (s : State) (x : Tag) (e : TagEntry) : (s.setTagEntry x e).line = s.line := rfl
@[simp] theorem State.setTagEntry_counters (s : State) (x : Tag) (e : TagEntry) :
    (s.setTagEntry x e).counters = s.counters := rfl
@[simp] theorem State.setTagEntry_notice (s : State) (x : Tag) (e : TagEntry) :
    (s.setTagEntry x e).notice = s.notice := rfl
@[simp] theorem State.setTagEntry_sweep (s : State) (x : Tag) (e : TagEntry) :
    (s.setTagEntry x e).sweep = s.sweep := rfl
@[simp] theorem State.setTagEntry_attention (s : State) (x : Tag) (e : TagEntry) :
    (s.setTagEntry x e).attention = s.attention := rfl
@[simp] theorem State.setTagEntry_host (s : State) (x : Tag) (e : TagEntry) : (s.setTagEntry x e).host = s.host := rfl
@[simp] theorem State.setTagEntry_resetAsserted (s : State) (x : Tag) (e : TagEntry) :
    (s.setTagEntry x e).resetAsserted = s.resetAsserted := rfl
@[simp] theorem State.setTagEntry_pending (s : State) (x : Tag) (e : TagEntry) :
    (s.setTagEntry x e).pending = s.pending := rfl

/-! ### `State.returnCells` -/

@[simp] theorem State.returnCells_records (s : State) (n : Nat) : (s.returnCells n).records = s.records := rfl
@[simp] theorem State.returnCells_classes (s : State) (n : Nat) : (s.returnCells n).classes = s.classes := rfl
@[simp] theorem State.returnCells_feeders (s : State) (n : Nat) : (s.returnCells n).feeders = s.feeders := rfl
@[simp] theorem State.returnCells_freeCells (s : State) (n : Nat) : (s.returnCells n).freeCells = s.freeCells + n := rfl
@[simp] theorem State.returnCells_tags (s : State) (n : Nat) : (s.returnCells n).tags = s.tags := rfl
@[simp] theorem State.returnCells_trunk (s : State) (n : Nat) : (s.returnCells n).trunk = s.trunk := rfl
@[simp] theorem State.returnCells_line (s : State) (n : Nat) : (s.returnCells n).line = s.line := rfl
@[simp] theorem State.returnCells_counters (s : State) (n : Nat) : (s.returnCells n).counters = s.counters := rfl
@[simp] theorem State.returnCells_notice (s : State) (n : Nat) : (s.returnCells n).notice = s.notice := rfl
@[simp] theorem State.returnCells_sweep (s : State) (n : Nat) : (s.returnCells n).sweep = s.sweep := rfl
@[simp] theorem State.returnCells_attention (s : State) (n : Nat) : (s.returnCells n).attention = s.attention := rfl
@[simp] theorem State.returnCells_host (s : State) (n : Nat) : (s.returnCells n).host = s.host := rfl
@[simp] theorem State.returnCells_resetAsserted (s : State) (n : Nat) :
    (s.returnCells n).resetAsserted = s.resetAsserted := rfl
@[simp] theorem State.returnCells_pending (s : State) (n : Nat) : (s.returnCells n).pending = s.pending := rfl

/-! ### `State.leaveWaitQueue` -/

@[simp] theorem State.leaveWaitQueue_records (s : State) (b : BindingNo) :
    (s.leaveWaitQueue b).records = s.records := rfl
@[simp] theorem State.leaveWaitQueue_classes (s : State) (b : BindingNo) :
    (s.leaveWaitQueue b).classes = s.classes := rfl
@[simp] theorem State.leaveWaitQueue_feeders (s : State) (b : BindingNo) :
    (s.leaveWaitQueue b).feeders = s.feeders := rfl
@[simp] theorem State.leaveWaitQueue_freeCells (s : State) (b : BindingNo) :
    (s.leaveWaitQueue b).freeCells = s.freeCells := rfl
@[simp] theorem State.leaveWaitQueue_tags (s : State) (b : BindingNo) :
    (s.leaveWaitQueue b).tags = { s.tags with waitQueue := s.tags.waitQueue.erase b } := rfl
@[simp] theorem State.leaveWaitQueue_trunk (s : State) (b : BindingNo) : (s.leaveWaitQueue b).trunk = s.trunk := rfl
@[simp] theorem State.leaveWaitQueue_line (s : State) (b : BindingNo) : (s.leaveWaitQueue b).line = s.line := rfl
@[simp] theorem State.leaveWaitQueue_counters (s : State) (b : BindingNo) :
    (s.leaveWaitQueue b).counters = s.counters := rfl
@[simp] theorem State.leaveWaitQueue_notice (s : State) (b : BindingNo) : (s.leaveWaitQueue b).notice = s.notice := rfl
@[simp] theorem State.leaveWaitQueue_sweep (s : State) (b : BindingNo) : (s.leaveWaitQueue b).sweep = s.sweep := rfl
@[simp] theorem State.leaveWaitQueue_attention (s : State) (b : BindingNo) :
    (s.leaveWaitQueue b).attention = s.attention := rfl
@[simp] theorem State.leaveWaitQueue_host (s : State) (b : BindingNo) : (s.leaveWaitQueue b).host = s.host := rfl
@[simp] theorem State.leaveWaitQueue_resetAsserted (s : State) (b : BindingNo) :
    (s.leaveWaitQueue b).resetAsserted = s.resetAsserted := rfl
@[simp] theorem State.leaveWaitQueue_pending (s : State) (b : BindingNo) :
    (s.leaveWaitQueue b).pending = s.pending := rfl

/-! ### `State.leaveOwed` -/

@[simp] theorem State.leaveOwed_records (s : State) (b : BindingNo) : (s.leaveOwed b).records = s.records := rfl
@[simp] theorem State.leaveOwed_classes (s : State) (b : BindingNo) : (s.leaveOwed b).classes = s.classes := rfl
@[simp] theorem State.leaveOwed_feeders (s : State) (b : BindingNo) : (s.leaveOwed b).feeders = s.feeders := rfl
@[simp] theorem State.leaveOwed_freeCells (s : State) (b : BindingNo) : (s.leaveOwed b).freeCells = s.freeCells := rfl
@[simp] theorem State.leaveOwed_tags (s : State) (b : BindingNo) : (s.leaveOwed b).tags = s.tags := rfl
@[simp] theorem State.leaveOwed_trunk (s : State) (b : BindingNo) : (s.leaveOwed b).trunk = s.trunk := rfl
@[simp] theorem State.leaveOwed_line (s : State) (b : BindingNo) : (s.leaveOwed b).line = s.line := rfl
@[simp] theorem State.leaveOwed_counters (s : State) (b : BindingNo) : (s.leaveOwed b).counters = s.counters := rfl
@[simp] theorem State.leaveOwed_notice (s : State) (b : BindingNo) :
    (s.leaveOwed b).notice = { s.notice with owed := s.notice.owed.erase b } := rfl
@[simp] theorem State.leaveOwed_sweep (s : State) (b : BindingNo) : (s.leaveOwed b).sweep = s.sweep := rfl
@[simp] theorem State.leaveOwed_attention (s : State) (b : BindingNo) : (s.leaveOwed b).attention = s.attention := rfl
@[simp] theorem State.leaveOwed_host (s : State) (b : BindingNo) : (s.leaveOwed b).host = s.host := rfl
@[simp] theorem State.leaveOwed_resetAsserted (s : State) (b : BindingNo) :
    (s.leaveOwed b).resetAsserted = s.resetAsserted := rfl
@[simp] theorem State.leaveOwed_pending (s : State) (b : BindingNo) : (s.leaveOwed b).pending = s.pending := rfl

/-! ### `State.startItem` -/

@[simp] theorem State.startItem_records (s : State) (i : TxItem) (bytes : List Byte) :
    (s.startItem i bytes).records = s.records := rfl
@[simp] theorem State.startItem_classes (s : State) (i : TxItem) (bytes : List Byte) :
    (s.startItem i bytes).classes = s.classes := rfl
@[simp] theorem State.startItem_feeders (s : State) (i : TxItem) (bytes : List Byte) :
    (s.startItem i bytes).feeders = s.feeders := rfl
@[simp] theorem State.startItem_freeCells (s : State) (i : TxItem) (bytes : List Byte) :
    (s.startItem i bytes).freeCells = s.freeCells := rfl
@[simp] theorem State.startItem_tags (s : State) (i : TxItem) (bytes : List Byte) :
    (s.startItem i bytes).tags = s.tags := rfl
@[simp] theorem State.startItem_trunk (s : State) (i : TxItem) (bytes : List Byte) :
    (s.startItem i bytes).trunk = { s.trunk with output := .busy i bytes } := rfl
@[simp] theorem State.startItem_line (s : State) (i : TxItem) (bytes : List Byte) :
    (s.startItem i bytes).line = s.line := rfl
@[simp] theorem State.startItem_counters (s : State) (i : TxItem) (bytes : List Byte) :
    (s.startItem i bytes).counters = s.counters := rfl
@[simp] theorem State.startItem_notice (s : State) (i : TxItem) (bytes : List Byte) :
    (s.startItem i bytes).notice = s.notice := rfl
@[simp] theorem State.startItem_sweep (s : State) (i : TxItem) (bytes : List Byte) :
    (s.startItem i bytes).sweep = s.sweep := rfl
@[simp] theorem State.startItem_attention (s : State) (i : TxItem) (bytes : List Byte) :
    (s.startItem i bytes).attention = s.attention := rfl
@[simp] theorem State.startItem_host (s : State) (i : TxItem) (bytes : List Byte) :
    (s.startItem i bytes).host = s.host := rfl
@[simp] theorem State.startItem_resetAsserted (s : State) (i : TxItem) (bytes : List Byte) :
    (s.startItem i bytes).resetAsserted = s.resetAsserted := rfl
@[simp] theorem State.startItem_pending (s : State) (i : TxItem) (bytes : List Byte) :
    (s.startItem i bytes).pending = s.pending := rfl

/-! ### Reading a numbered table after a write -/

@[simp] theorem State.record_updateRecord_self (s : State) (b : BindingNo) (f : BindingRecord → BindingRecord) :
    (s.updateRecord b f).record b = f (s.record b) := by simp [State.record]

theorem State.record_updateRecord_ne (s : State) {b c : BindingNo} (f : BindingRecord → BindingRecord) (h : c ≠ b) :
    (s.updateRecord b f).record c = s.record c := by
  simp [State.record, Fin.val_ne_of_ne h.symm]

theorem State.record_updateRecord (s : State) (b c : BindingNo) (f : BindingRecord → BindingRecord) :
    (s.updateRecord b f).record c = if c = b then f (s.record b) else s.record c := by
  split
  next h => subst h; exact s.record_updateRecord_self c f
  next h => exact s.record_updateRecord_ne f h

@[simp] theorem State.record_putRecord_self (s : State) (b : BindingNo) (r : BindingRecord) :
    (s.putRecord b r).record b = r := by simp [State.record]

theorem State.record_putRecord_ne (s : State) {b c : BindingNo} (r : BindingRecord) (h : c ≠ b) :
    (s.putRecord b r).record c = s.record c := by
  simp [State.record, Fin.val_ne_of_ne h.symm]

@[simp] theorem State.feeder_updateFeeder_self (s : State) (l : LinkNo) (f : FeederLink → FeederLink) :
    (s.updateFeeder l f).feeder l = f (s.feeder l) := by simp [State.feeder]

theorem State.feeder_updateFeeder_ne (s : State) {l m : LinkNo} (f : FeederLink → FeederLink) (h : m ≠ l) :
    (s.updateFeeder l f).feeder m = s.feeder m := by
  simp [State.feeder, Fin.val_ne_of_ne h.symm]

@[simp] theorem State.feeder_putFeeder_self (s : State) (l : LinkNo) (f : FeederLink) :
    (s.putFeeder l f).feeder l = f := by simp [State.feeder]

theorem State.feeder_putFeeder_ne (s : State) {l m : LinkNo} (f : FeederLink) (h : m ≠ l) :
    (s.putFeeder l f).feeder m = s.feeder m := by
  simp [State.feeder, Fin.val_ne_of_ne h.symm]

@[simp] theorem State.tagEntry_setTagEntry_self (s : State) (x : Tag) (e : TagEntry) :
    (s.setTagEntry x e).tagEntry x = e := by simp [State.tagEntry]

theorem State.tagEntry_setTagEntry_ne (s : State) {x y : Tag} (e : TagEntry) (h : y ≠ x) :
    (s.setTagEntry x e).tagEntry y = s.tagEntry y := by
  simp [State.tagEntry, Fin.val_ne_of_ne h.symm]

/-! ### One spelling for a write of a record and of a link -/

theorem State.updateRecord_eq (s : State) (b : BindingNo) (f : BindingRecord → BindingRecord) :
    s.updateRecord b f = s.putRecord b (f (s.record b)) := rfl

theorem State.updateFeeder_eq (s : State) (l : LinkNo) (f : FeederLink → FeederLink) :
    s.updateFeeder l f = s.putFeeder l (f (s.feeder l)) := rfl

@[simp] theorem State.putRecord_putRecord (s : State) (b : BindingNo) (r r' : BindingRecord) :
    (s.putRecord b r).putRecord b r' = s.putRecord b r' := by simp [State.putRecord]

@[simp] theorem State.putFeeder_putFeeder (s : State) (l : LinkNo) (f f' : FeederLink) :
    (s.putFeeder l f).putFeeder l f' = s.putFeeder l f' := by simp [State.putFeeder]

@[simp] theorem State.putRecord_record (s : State) (b : BindingNo) : s.putRecord b (s.record b) = s := by
  simp [State.putRecord, State.record]

@[simp] theorem State.putFeeder_feeder (s : State) (l : LinkNo) : s.putFeeder l (s.feeder l) = s := by
  simp [State.putFeeder, State.feeder]

end Sys2Proof.Machine
end

