-- ==== Sys2Proof/Laws/Ops.lean ====
section
/-! SUPPORT. What each shared operation does, said once as an equation, so that proofs cite it and never unfold the
operation. -/

namespace Sys2Proof.Machine

/-! ### Attention -/

/-- Every per-record reason has a bit of its own. -/
theorem RecordReason.mask_ne_zero (r : RecordReason) : r.mask ≠ 0#5 := by cases r <;> decide

/-- R168: raising a part-level reason changes the pending part-level reasons alone. -/
theorem State.raisePart_eq (s : State) (r : PartReason) :
    s.raisePart r = { s with attention.part := s.partAfter r.mask } := by
  by_cases h : s.attention.partEnables &&& r.mask = 0#6 <;> simp [raisePart, partEnabled, partAfter, h]

/-- R168: raising a per-record reason changes that record's pending reasons alone. -/
theorem State.raiseRecord_eq (s : State) (b : BindingNo) (r : RecordReason) :
    s.raiseRecord b r =
      s.putRecord b { s.record b with reasons := s.reasonsAfter (s.record b).reasons r.mask } := by
  by_cases h : s.attention.recordEnables &&& r.mask = 0#5
  · simp only [raiseRecord, recordEnabled, reasonsAfter, h, bne_self_eq_false, Bool.false_eq_true, if_false, if_true]
    exact (s.putRecord_record b).symm
  · simp [raiseRecord, recordEnabled, reasonsAfter, h, updateRecord_eq]

/-! ### Leases -/

/-- R16: the lease starts afresh at the class's lease length and nothing else changes. -/
theorem State.startLease_eq (s : State) (b : BindingNo) :
    s.startLease b = s.putRecord b { s.record b with lease := some (s.classOf b).leaseLength } := rfl

/-- R17: a running lease is renewed and a stopped one stays stopped. -/
theorem State.renewLease_eq (s : State) (b : BindingNo) :
    s.renewLease b =
      s.putRecord b { s.record b with lease := (s.record b).lease.map fun _ => (s.classOf b).leaseLength } := by
  cases h : (s.record b).lease
  · simp only [renewLease, h, Option.isSome_none, Bool.false_eq_true, if_false, Option.map_none]
    conv_lhs => rw [← s.putRecord_record b]
    rw [← h]
  · simp [renewLease, h, startLease_eq]

/-! ### Notices owed -/

/-- R154: the record's phase is OWED and it stands at the tail of the owed list. -/
theorem State.oweNotice_eq (s : State) (b : BindingNo) :
    s.oweNotice b =
      { s with notice.owed := s.notice.owed ++ [b] }.putRecord b { s.record b with phase := .owed } := rfl

/-- R55, R99: owed while the session is UP, and awaiting the session otherwise. -/
theorem State.oweOrAwait_eq (s : State) (b : BindingNo) :
    s.oweOrAwait b = { s with notice.owed := s.owedWith b }.putRecord b
      { s.record b with phase := if s.notice.session = Session.up then .owed else .awaitSession } := by
  by_cases h : s.notice.session = .up <;> simp [oweOrAwait, owedWith, oweNotice_eq, updateRecord_eq, h]

/-! ### Tags -/

/-- R76: the release of a HELD tag. -/
theorem State.releaseTag_held {s : State} {x : Tag} {b : BindingNo} (h : s.tagEntry x = .held b) :
    s.releaseTag x = { s with tags := s.tags.releasing x }.putRecord b { s.record b with tag := none } := by
  simp [releaseTag, h]; rfl

/-- R76, R80: the release of a STRANDED tag. -/
theorem State.releaseTag_stranded {s : State} {x : Tag} {q : Byte} (h : s.tagEntry x = .stranded q) :
    s.releaseTag x = { s with
      tags := { s.tags.releasing x with strandedCount := s.tags.strandedCount - 1 } } := by
  simp [releaseTag, h, setTagEntry, TagManager.releasing]

/-- R76: a FREE tag is not released. -/
theorem State.releaseTag_free {s : State} {x : Tag} {age : Nat} (h : s.tagEntry x = .free age) :
    s.releaseTag x = s := by simp [releaseTag, h]

/-- R67, R72: the free list's tag becomes the record's. -/
theorem State.holdTag_eq (s : State) (b : BindingNo) (x : Tag) :
    s.holdTag b x = { s with tags := { s.tags with
      table := s.tags.table.set x (.held b), freeList := s.tags.freeList.erase x } }.putRecord b
        { s.record b with tag := some x } := rfl

/-- R55: entry to ANNOUNCING from admission. -/
theorem State.announceAdmitted_eq {s : State} {b : BindingNo} {x : Tag} (h : (s.record b).tag = some x) :
    s.announceAdmitted b =
      { s with notice.owed := s.owedWith b }.putRecord b (s.announcedAs (s.record b) x) := by
  simp only [record, Fin.getElem_fin] at h
  simp [announceAdmitted, oweOrAwait_eq, updateRecord_eq, owedWith, announcedAs, h, putRecord, record]

/-- A grant event changes nothing while no record waits (R73). -/
theorem State.grantEvent_of_no_waiter {s : State} (h : s.tags.waitQueue = []) : s.grantEvent = s := by
  simp [grantEvent, h, grantUpTo]

/-- R73: only an event that released a tag with a hold-off of 0 grants. -/
theorem State.grantIfReleased_of_le {s before : State}
    (h : s.tags.freeList.length ≤ before.tags.freeList.length) : s.grantIfReleased before = s := by
  simp [grantIfReleased, Nat.not_lt.mpr h]

/-! ### LIVE and the end of a record -/

/-- R86: entry to LIVE. -/
theorem State.enterLive_eq (s : State) (b : BindingNo) :
    s.enterLive b = s.putRecord b { s.record b with
      state := .live, run := 0, consecutiveBad := 0, faults := 0, trial := none, phase := .none, announced := true
      lease := some (s.classOf b).leaseLength, reasons := s.reasonsAfter (s.record b).reasons 0x01#5 } := by
  simp [enterLive, raiseRecord_eq, startLease_eq, updateRecord_eq, classOf, reasonsAfter, RecordReason.mask]

/-- R119: completion of retirement. -/
theorem State.completeRetirement_eq (s : State) (b : BindingNo) :
    s.completeRetirement b = s.putRecord b (s.retiredOrFree (s.record b)) := by
  by_cases ha : (s.classOf b).autoClear = true <;>
    by_cases he : s.attention.recordEnables &&& 0x10#5 = 0#5 <;>
    simp_all [completeRetirement, retiredOrFree, recordEnabled, RecordReason.mask, goFree, updateRecord_eq, classOf,
      BindingRecord.completed]

/-! ### Admission (R53 to R56) -/

/-- R53, R55: completion of admission of a record with a fixed tag. -/
theorem State.completeAdmission_fixed {s : State} {b : BindingNo} {x : Tag} (h : (s.record b).tag = some x) :
    s.completeAdmission b = { s with notice.owed := s.owedWith b }.putRecord b
      (s.announcedAs { s.record b with geometry := (s.record b).trial, trial := none } x) := by
  have h' : ((s.putRecord b { s.record b with geometry := (s.record b).trial, trial := none }).record b).tag = some x := by
    simp [h]
  simp only [completeAdmission, updateRecord_eq]
  refine (if_pos (by rw [h']; rfl)).trans ?_
  rw [announceAdmitted_eq h']
  simp [putRecord, announcedAs, owedWith, record]
  exact ⟨rfl, rfl⟩

/-- R56: entry to TAG_WAIT. -/
theorem State.enterTagWait_eq (s : State) (b : BindingNo) :
    s.enterTagWait b = { s with tags := { s.tags with waitQueue := s.tags.waitQueue ++ [b] } }.putRecord b
      { s.record b with state := .tagWait, trial := none, lease := some (s.classOf b).leaseLength } := by
  simp [enterTagWait, updateRecord_eq, startLease_eq, putRecord, record, classOf]

/-- R54, R56: completion of admission when a record waits already, or the head of the free list is not ready. -/
theorem State.completeAdmission_waits {s : State} {b : BindingNo} (h : (s.record b).tag = none)
    (hw : ∀ x rest, s.tags.waitQueue = [] → s.tags.freeList = x :: rest → s.tagReady x = false) :
    s.completeAdmission b =
      { s with tags := { s.tags with waitQueue := s.tags.waitQueue ++ [b] } }.putRecord b { s.record b with
        geometry := (s.record b).trial, trial := none, state := .tagWait
        lease := some (s.classOf b).leaseLength } := by
  obtain ⟨r, hr⟩ : ∃ r, r = { s.record b with geometry := (s.record b).trial, trial := none } := ⟨_, rfl⟩
  have h' : ((s.putRecord b r).record b).tag = none := by simp [hr, h]
  have e : (s.putRecord b r).enterTagWait b =
      { s with tags := { s.tags with waitQueue := s.tags.waitQueue ++ [b] } }.putRecord b
        { r with state := .tagWait, trial := none, lease := some (s.classOf b).leaseLength } := by
    rw [enterTagWait_eq]
    simp [putRecord, record, classOf, hr]
  simp only [completeAdmission, updateRecord_eq, ← hr]
  refine (if_neg (by rw [h']; simp)).trans ?_
  rw [requestTag]
  split
  next x rest h1 h2 =>
    have hx : (s.putRecord b r).tagReady x = false := hw x rest h1 h2
    exact (if_neg (by simp [hx])).trans (by rw [e, hr])
  next => rw [e, hr]

/-- R54, R72: completion of admission with the ready head of the free list. -/
theorem State.completeAdmission_takes {s : State} {b : BindingNo} {x : Tag} {rest : List Tag}
    (h : (s.record b).tag = none) (hq : s.tags.waitQueue = []) (hf : s.tags.freeList = x :: rest)
    (hr : s.tagReady x = true) :
    s.completeAdmission b = { s with
      notice.owed := s.owedWith b
      tags := { s.tags with table := s.tags.table.set x (.held b), freeList := rest } }.putRecord b
        (s.announcedAs { s.record b with geometry := (s.record b).trial, trial := none } x) := by
  obtain ⟨r, hr'⟩ : ∃ r, r = { s.record b with geometry := (s.record b).trial, trial := none } := ⟨_, rfl⟩
  have h' : ((s.putRecord b r).record b).tag = none := by simp [hr', h]
  have hx : (s.putRecord b r).tagReady x = true := hr
  simp only [completeAdmission, updateRecord_eq, ← hr']
  refine (if_neg (by rw [h']; simp)).trans ?_
  rw [requestTag]
  simp only [putRecord_tags, hq, hf, hx, if_true]
  rw [announceAdmitted_eq (x := x) (by simp [holdTag_eq])]
  simp [holdTag_eq, putRecord, record, announcedAs, owedWith, hf, hr']
  exact hq

/-! ### Descriptors (R5, R129) -/

/-- R5: "The count cannot exceed 40, the capacity of the egress queue." -/
theorem State.inFlight_le {s : State} (hf : s.FlightLaw) (hc : s.CapacityLaw) (b : BindingNo) :
    (s.record b).inFlight ≤ Config.queueCapacity := by
  rw [hf.1 b]
  exact List.countP_le_length.trans hc.1

/-! ### Grants (R73) -/

/-- R68: when a tag is ready; none is while a hold-off expiry stands for waiting records (log 3). -/
theorem State.tagReady_iff (s : State) (x : Tag) : s.tagReady x = true ↔
    (∃ age, s.tagEntry x = .free age ∧ s.tags.holdOff ≤ age) ∧ (s.tags.holdOffDue = false ∨ s.tags.waitQueue = []) := by
  unfold tagReady
  cases s.tagEntry x <;> cases s.tags.holdOffDue <;> simp

/-- R73: a grant event with an empty queue, or with a head that is not ready, grants nothing. -/
theorem State.grantEvent_of_head {s : State} (h : s.HeadLaw) : s.grantEvent = s := by
  unfold grantEvent
  rcases h with h | h
  · simp [h, grantUpTo]
  · cases hn : s.tags.waitQueue.length with
    | zero => rfl
    | succ n =>
      unfold grantUpTo
      split
      next x rest _ hx => simp [h x rest hx]
      next => rfl

/-- R69: a hold-off left unchanged or raised makes no tag ready that was not. -/
theorem State.tagReady_setHoldOff {s : State} {holdOff : Nat} {x : Tag} (hle : s.tags.holdOff ≤ holdOff)
    (h : s.tagReady x = false) : { s with tags := s.tags.setHoldOff holdOff }.tagReady x = false := by
  rw [Bool.eq_false_iff, ne_eq, tagReady_iff] at h ⊢
  simp only [TagManager.setHoldOff, hle, decide_true, Bool.and_true]
  rintro ⟨⟨age, he, ha⟩, hd⟩
  exact h ⟨⟨age, he, hle.trans ha⟩, hd⟩

/-- R73: one grant. -/
theorem State.grantOne_eq (s : State) (b : BindingNo) (x : Tag) :
    s.grantOne b x = { s with
      tags := { s.tags with
        table := s.tags.table.set x (.held b), freeList := s.tags.freeList.erase x
        waitQueue := s.tags.waitQueue.erase b }
      notice.owed := s.owedWith b }.putRecord b (s.announcedAs (s.record b) x) := by
  rw [grantOne, announceAdmitted_eq (x := x) (by simp [holdTag_eq, record])]
  simp [holdTag_eq, putRecord, record, announcedAs, owedWith]
  exact ⟨rfl, rfl⟩

/-! ### The end of a retirement (R77, R119, R137) -/

/-- Completion reads the classes and the enables alone. -/
theorem State.retiredOrFree_congr {s t : State} (h : s.classes = t.classes) (h' : s.attention = t.attention)
    (r : BindingRecord) : s.retiredOrFree r = t.retiredOrFree r := by
  simp only [retiredOrFree, h, h']

/-- R119: the completion of a record that holds no tag. -/
theorem State.releaseAndComplete_untagged {s : State} {b : BindingNo} (h : (s.record b).tag = none) :
    s.releaseAndComplete b = s.putRecord b (s.retiredOrFree (s.record b)) := by
  simp [releaseAndComplete, releaseTagOf, h, completeRetirement_eq]

/-- R77, R119: the completion of a record whose tag is HELD by it. -/
theorem State.releaseAndComplete_tagged {s : State} {b : BindingNo} {x : Tag} (h : (s.record b).tag = some x)
    (h' : s.tagEntry x = .held b) :
    s.releaseAndComplete b = { s with tags := s.tags.releasing x }.putRecord b
      (s.retiredOrFree { s.record b with tag := none }) := by
  simp only [releaseAndComplete, releaseTagOf, h, releaseTag_held h', completeRetirement_eq, record_putRecord_self,
    putRecord_putRecord]
  rfl

/-- R137: nothing moves on unless the record is in DRAIN with nothing in flight. -/
theorem State.moveDrained_of_not {s : State} {b : BindingNo}
    (h : ¬((s.record b).phase = .drain ∧ (s.record b).inFlight = 0)) : s.moveDrained b = s := if_neg h

/-! ### Descriptors and the window -/

/-- R138, R139: what dropping a list of descriptors does to a record, and to everything else. -/
theorem State.dropDescriptors_effect (l : List Descriptor) (s : State) :
    (∀ b, (l.foldl dropDescriptor s).record b =
      { s.record b with
        inFlight := (s.record b).inFlight - l.countP fun d => d.binding == some b
        withheld := satSucc^[l.countP fun d => d.binding == some b] (s.record b).withheld }) ∧
    { l.foldl dropDescriptor s with records := s.records } = { s with
      freeCells := s.freeCells + (l.map fun d => d.cells.length).sum
      counters := { s.counters with framesPurged := satSucc^[l.length] s.counters.framesPurged } } := by
  induction l generalizing s with
  | nil => exact ⟨fun _ => rfl, rfl⟩
  | cons d l ih =>
    obtain ⟨i1, i2⟩ := ih (s.dropDescriptor d)
    refine ⟨fun b => ?_, ?_⟩
    · rw [List.foldl_cons, i1 b]
      have hd : (s.dropDescriptor d).record b = if d.binding = some b then
          { s.record b with inFlight := (s.record b).inFlight - 1, withheld := satSucc (s.record b).withheld }
          else s.record b := by
        unfold dropDescriptor dropFromRecord
        rcases hb : d.binding with _ | c
        · rfl
        · by_cases h : c = b
          · subst h; simp [record]
          · have : c.val ≠ b.val := fun e => h (Fin.ext e)
            simp [record, h, this]
      rw [hd, List.countP_cons]
      by_cases h : d.binding = some b
      · simp [h, Nat.sub_sub, Nat.add_comm 1]
      · simp [h]
    · rw [List.foldl_cons]
      have e : { l.foldl dropDescriptor (s.dropDescriptor d) with records := s.records } =
          { { l.foldl dropDescriptor (s.dropDescriptor d) with records := (s.dropDescriptor d).records } with
            records := s.records } := rfl
      rw [e, i2]
      unfold dropDescriptor dropFromRecord
      cases d.binding <;> simp [returnCells, Descriptor.cellCount, Nat.add_assoc]

/-- R158: the entry found for a sequence number carries it. -/
theorem State.windowEntry_seq {s : State} {q : Byte} {e : WindowEntry} (h : s.windowEntry q = some e) : e.seq = q := by
  simpa using List.find?_some h

/-- R131: beginning the first descriptor that meets a condition marks it and no other. -/
theorem markFirst_split (p : Descriptor → Bool) (before after : List Descriptor) (d : Descriptor)
    (h : ∀ x ∈ before, p x = false) (hd : p d = true) :
    markFirst p (before ++ d :: after) = before ++ { d with inTransmission := true } :: after := by
  induction before with
  | nil => simp [markFirst, hd]
  | cons a before ih => simp [markFirst, h a (by simp), ih fun x hx => h x (by simp [hx])]

/-- R134, R143: when a descriptor may be begun. -/
theorem State.mayBegin_iff (s : State) (d : Descriptor) :
    s.mayBegin d = true ↔ d.cells.length ≤ s.trunk.credit ∧ s.notice.session = .up ∧
      ∃ b, d.binding = some b ∧ s.tagEntry d.tag = .held b ∧ (s.record b).announced = true ∧
        (s.record b).phase ≠ .outstanding := by
  unfold mayBegin mayCarry
  cases h : d.binding <;> simp [Descriptor.cellCount, and_assoc]
  intros; exact decide_eq_true_iff

end Sys2Proof.Machine
end

