-- ==== Sys2Proof/Laws/Frames.lean ====
section
/-! SUPPORT. Frames: the fields that the arbiter, a grant event, a retirement and a frame close leave alone. -/

namespace Sys2Proof.Machine

/-! ### The arbiter, grants and retirement -/

/-- R131: the arbiter changes records (phases), the trunk output, its counters and the notices alone. -/
theorem State.arbitrate_frame (s : State) :
    { s.arbitrate with records := s.records, trunk := s.trunk, counters := s.counters, notice := s.notice } = s := by
  unfold arbitrate
  split
  · rfl
  · split
    · split
      next o _ =>
        cases o <;> simp only [beginOffer, beginHello, beginAgain, beginFirst, countRetransmission, startItem,
          updateEntry, updateRecord] <;> split_ifs <;> rfl
      next => simp only [chooseData, beginData, startItem]; repeat' split
              all_goals rfl
    · rfl

/-- The arbiter leaves the links alone. -/
theorem State.arbitrate_feeders (s : State) : s.arbitrate.feeders = s.feeders := by
  have := congrArg State.feeders s.arbitrate_frame; simpa using this

/-- The arbiter leaves the tags alone. -/
theorem State.arbitrate_tags (s : State) : s.arbitrate.tags = s.tags := by
  have := congrArg State.tags s.arbitrate_frame; simpa using this

/-- The arbiter leaves the host port alone. -/
theorem State.arbitrate_host (s : State) : s.arbitrate.host = s.host := by
  have := congrArg State.host s.arbitrate_frame; simpa using this

/-- The arbiter leaves the waiting commands alone. -/
theorem State.arbitrate_pending (s : State) : s.arbitrate.pending = s.pending := by
  have := congrArg State.pending s.arbitrate_frame; simpa using this

/-- The arbiter raises and clears no reason. -/
theorem State.arbitrate_attention (s : State) : s.arbitrate.attention = s.attention := by
  have := congrArg State.attention s.arbitrate_frame; simpa using this

/-- The arbiter changes of a record its phase alone (R155). -/
theorem State.arbitrate_record (s : State) (b : BindingNo) :
    s.arbitrate.record b = { s.record b with phase := (s.arbitrate.record b).phase } := by
  unfold arbitrate
  split
  · rfl
  · split
    · split
      next o _ =>
        cases o
        · simp only [beginOffer, beginHello, countRetransmission, startItem]; split_ifs <;> rfl
        · simp only [beginOffer, beginAgain, countRetransmission, startItem, updateEntry]; split_ifs <;> rfl
        next c _ _ =>
          simp only [beginOffer, beginFirst, startItem]
          by_cases h : b = c
          · subst h; simp [record, updateRecord]
          · have : c.val ≠ b.val := fun e => h (Fin.ext e.symm)
            simp [record, updateRecord, this]
      next => simp only [chooseData, beginData, startItem]; repeat' split
              all_goals rfl
    · rfl

/-- Entry to ANNOUNCING from admission changes records and the owed list alone. -/
theorem State.announceAdmitted_frame (s : State) (b : BindingNo) :
    ∃ rs owed, s.announceAdmitted b = { s with records := rs, notice.owed := owed } := by
  rw [announceAdmitted, oweOrAwait_eq]
  exact ⟨_, _, rfl⟩

/-- A grant event changes records, tags and the owed list alone. -/
theorem State.grantUpTo_frame (n : Nat) (s : State) :
    ∃ rs m owed, s.grantUpTo n = { s with records := rs, tags := m, notice.owed := owed } := by
  induction n generalizing s with
  | zero => exact ⟨_, _, _, rfl⟩
  | succ n ih =>
    unfold grantUpTo
    split
    next b _ x _ _ _ =>
      split
      · obtain ⟨rs, m, o, h⟩ := ih (s.grantOne b x)
        obtain ⟨rs', o', h'⟩ := ((s.holdTag b x).leaveWaitQueue b).announceAdmitted_frame b
        rw [h, grantOne, h']
        exact ⟨_, _, _, rfl⟩
      · exact ⟨_, _, _, rfl⟩
    next => exact ⟨_, _, _, rfl⟩

/-- So does the grant at the end of an event that released a tag. -/
theorem State.grantIfReleased_frame (s before : State) :
    ∃ rs m owed, s.grantIfReleased before = { s with records := rs, tags := m, notice.owed := owed } := by
  unfold grantIfReleased grantEvent
  split
  · exact s.grantUpTo_frame _
  · exact ⟨_, _, _, rfl⟩

/-- A release changes records and tags alone (R76). -/
theorem State.releaseTag_frame (s : State) (x : Tag) :
    ∃ rs m, s.releaseTag x = { s with records := rs, tags := m } := by
  simp only [releaseTag]
  split <;> exact ⟨_, _, rfl⟩

/-- Completion of retirement changes records alone (R119). -/
theorem State.completeRetirement_frame (s : State) (b : BindingNo) :
    ∃ rs, s.completeRetirement b = { s with records := rs } := by
  simp only [completeRetirement]
  split <;> exact ⟨_, rfl⟩

/-- Release and completion change records and tags alone. -/
theorem State.releaseAndComplete_frame (s : State) (b : BindingNo) :
    ∃ rs m, s.releaseAndComplete b = { s with records := rs, tags := m } := by
  simp only [releaseAndComplete, releaseTagOf]
  split
  next x _ =>
    obtain ⟨_, _, h⟩ := s.releaseTag_frame x
    obtain ⟨_, h'⟩ := (s.releaseTag x).completeRetirement_frame b
    rw [h', h]; exact ⟨_, _, rfl⟩
  · obtain ⟨_, h'⟩ := s.completeRetirement_frame b
    rw [h']; exact ⟨_, _, rfl⟩

/-- A drain end changes records, tags and the owed list alone (R116, R137). -/
theorem State.moveDrained_frame (s : State) (b : BindingNo) :
    ∃ rs m owed, s.moveDrained b = { s with records := rs, tags := m, notice.owed := owed } := by
  unfold moveDrained
  split
  · split
    · unfold drainEnd
      split
      · exact ⟨_, _, _, rfl⟩
      · split
        · obtain ⟨_, _, h⟩ := s.releaseAndComplete_frame b
          rw [h]; exact ⟨_, _, _, rfl⟩
        · exact ⟨_, _, _, rfl⟩
    · rw [oweOrAwait_eq]; exact ⟨_, _, _, rfl⟩
    · exact ⟨_, _, _, rfl⟩
  · exact ⟨_, _, _, rfl⟩

/-- The beginning of retirement changes records, tags and the owed list alone. -/
theorem State.beginRetirement_frame (s : State) (b : BindingNo) (c : RetireCause) :
    ∃ rs m owed, s.beginRetirement b c = { s with records := rs, tags := m, notice.owed := owed } := by
  have done (u : State) (h : ∃ rs m owed, u = { s with records := rs, tags := m, notice.owed := owed }) :
      ∃ rs m owed, u.releaseAndComplete b = { s with records := rs, tags := m, notice.owed := owed } := by
    obtain ⟨_, _, _, rfl⟩ := h
    obtain ⟨_, _, h'⟩ := State.releaseAndComplete_frame _ b
    rw [h']; exact ⟨_, _, _, rfl⟩
  unfold beginRetirement
  split
  · exact done _ ⟨_, _, _, rfl⟩
  · exact done _ ⟨_, _, _, rfl⟩
  · unfold retireAnnouncing
    split
    · exact ⟨_, _, _, rfl⟩
    · split
      · exact ⟨_, _, _, rfl⟩
      · exact done _ ⟨_, _, _, rfl⟩
    all_goals exact ⟨_, _, _, rfl⟩
  iterate 3
    · obtain ⟨_, _, _, h⟩ :=
        (s.updateRecord b fun r => { r.retiring c with consecutiveBad := 0, phase := .drain }).moveDrained_frame b
      rw [retireForwarding, h]
      exact ⟨_, _, _, rfl⟩
  all_goals exact ⟨_, _, _, rfl⟩

/-! ### The frame close -/

/-- What a close may change: records, links, free cells, tags, the queue, the owed list, and the pending part-level
reasons. -/
def State.CloseFrame (s t : State) : Prop :=
  ∃ rs fs n m q o p, t = { s with
    records := rs, feeders := fs, freeCells := n, tags := m, trunk.queue := q, notice.owed := o, attention.part := p }

theorem State.CloseFrame.refl (s : State) : s.CloseFrame s := ⟨_, _, _, _, _, _, _, rfl⟩

theorem State.CloseFrame.trans {s t u : State} (h : s.CloseFrame t) (h' : t.CloseFrame u) : s.CloseFrame u := by
  obtain ⟨_, _, _, _, _, _, _, rfl⟩ := h
  obtain ⟨_, _, _, _, _, _, _, rfl⟩ := h'
  exact ⟨_, _, _, _, _, _, _, rfl⟩

theorem State.closeFrame_updateRecord (s : State) (b f) : s.CloseFrame (s.updateRecord b f) :=
  ⟨_, _, _, _, _, _, _, rfl⟩

theorem State.closeFrame_updateFeeder (s : State) (b f) : s.CloseFrame (s.updateFeeder b f) :=
  ⟨_, _, _, _, _, _, _, rfl⟩

theorem State.closeFrame_returnCells (s : State) (n) : s.CloseFrame (s.returnCells n) := ⟨_, _, _, _, _, _, _, rfl⟩

theorem State.closeFrame_startLease (s : State) (b) : s.CloseFrame (s.startLease b) := ⟨_, _, _, _, _, _, _, rfl⟩

theorem State.closeFrame_renewLease (s : State) (b) : s.CloseFrame (s.renewLease b) :=
  by rw [renewLease_eq]; exact ⟨_, _, _, _, _, _, _, rfl⟩

theorem State.closeFrame_raiseRecord (s : State) (b r) : s.CloseFrame (s.raiseRecord b r) :=
  by rw [raiseRecord_eq]; exact ⟨_, _, _, _, _, _, _, rfl⟩

theorem State.closeFrame_raisePart (s : State) (r) : s.CloseFrame (s.raisePart r) :=
  by rw [raisePart_eq]; exact ⟨_, _, _, _, _, _, _, rfl⟩

theorem State.closeFrame_beginRetirement (s : State) (b c) : s.CloseFrame (s.beginRetirement b c) := by
  obtain ⟨_, _, _, h⟩ := s.beginRetirement_frame b c; rw [h]; exact ⟨_, _, _, _, _, _, _, rfl⟩

theorem State.closeFrame_announceAdmitted (s : State) (b) : s.CloseFrame (s.announceAdmitted b) := by
  obtain ⟨_, _, h⟩ := s.announceAdmitted_frame b; rw [h]; exact ⟨_, _, _, _, _, _, _, rfl⟩

theorem State.closeFrame_grantIfReleased (s u : State) : s.CloseFrame (s.grantIfReleased u) := by
  obtain ⟨_, _, _, h⟩ := s.grantIfReleased_frame u; rw [h]; exact ⟨_, _, _, _, _, _, _, rfl⟩

theorem State.closeFrame_oweOrAwait (s : State) (b) : s.CloseFrame (s.oweOrAwait b) := by
  rw [oweOrAwait_eq]; exact ⟨_, _, _, _, _, _, _, rfl⟩

theorem State.closeFrame_holdTag (s : State) (b t) : s.CloseFrame (s.holdTag b t) := by
  rw [holdTag_eq]; exact ⟨_, _, _, _, _, _, _, rfl⟩

theorem State.closeFrame_enterTagWait (s : State) (b) : s.CloseFrame (s.enterTagWait b) := by
  rw [enterTagWait_eq]; exact ⟨_, _, _, _, _, _, _, rfl⟩

theorem State.closeFrame_enterLive (s : State) (b) : s.CloseFrame (s.enterLive b) := by
  rw [enterLive_eq]; exact ⟨_, _, _, _, _, _, _, rfl⟩

theorem State.closeFrame_announceRequalified (s : State) (b) : s.CloseFrame (s.announceRequalified b) := by
  simp only [announceRequalified]; split
  · exact (closeFrame_updateRecord ..).trans (closeFrame_updateRecord ..)
  · exact (closeFrame_updateRecord ..).trans (closeFrame_oweOrAwait ..)

theorem State.closeFrame_requalify (s : State) (b) : s.CloseFrame (s.requalify b) := by
  simp only [requalify]; split_ifs
  · exact closeFrame_enterLive ..
  · exact closeFrame_announceRequalified ..
  · exact ((closeFrame_updateRecord ..).trans (closeFrame_announceRequalified ..)).trans (closeFrame_raiseRecord ..)
  · exact closeFrame_beginRetirement ..

theorem State.closeFrame_completeAdmission (s : State) (b) : s.CloseFrame (s.completeAdmission b) := by
  simp only [completeAdmission, requestTag]
  split
  · exact (closeFrame_updateRecord ..).trans (closeFrame_announceAdmitted ..)
  · split
    · split
      · exact ((closeFrame_updateRecord ..).trans (closeFrame_holdTag ..)).trans (closeFrame_announceAdmitted ..)
      · exact (closeFrame_updateRecord ..).trans (closeFrame_enterTagWait ..)
    · exact (closeFrame_updateRecord ..).trans (closeFrame_enterTagWait ..)

theorem State.closeFrame_suspend (s : State) (b) : s.CloseFrame (s.suspend b) :=
  ((closeFrame_updateRecord ..).trans (closeFrame_startLease ..)).trans (closeFrame_raiseRecord ..)

theorem State.closeFrame_closeFaulty (s : State) (b c) : s.CloseFrame (s.closeFaulty b c) := by
  simp only [closeFaulty]; split
  · exact ((closeFrame_returnCells ..).trans (closeFrame_updateRecord ..)).trans (closeFrame_suspend ..)
  · exact ((closeFrame_returnCells ..).trans (closeFrame_updateRecord ..))

theorem State.closeFrame_handleClose (s : State) (c : FrameClose) : s.CloseFrame (s.handleClose c) := by
  unfold handleClose
  split
  · refine (closeFrame_returnCells s c.cells.length).trans ?_
    unfold closeUnknown
    split
    · split
      · simp only [createLearnt]; split
        · exact ((closeFrame_updateRecord ..).trans (closeFrame_startLease ..)).trans
            (closeFrame_completeAdmission ..)
        · exact ((closeFrame_updateRecord ..).trans (closeFrame_startLease ..))
      · exact (closeFrame_updateFeeder ..).trans (closeFrame_raisePart ..)
    · exact .refl _
  · split
    · simp only [closeLive]
      split
      · split
        · split
          · exact ((closeFrame_renewLease ..).trans (closeFrame_updateRecord ..)).trans ⟨_, _, _, _, _, _, _, rfl⟩
          · exact ((closeFrame_renewLease ..).trans (closeFrame_updateRecord ..)).trans
              ((((closeFrame_returnCells ..).trans (closeFrame_updateRecord ..)).trans (closeFrame_updateFeeder ..)).trans (closeFrame_raisePart ..))
        · exact ((closeFrame_renewLease ..).trans (closeFrame_updateRecord ..)).trans
            ((closeFrame_returnCells ..).trans (closeFrame_updateRecord ..))
      · exact ((closeFrame_renewLease ..).trans (closeFrame_updateRecord ..)).trans (closeFrame_closeFaulty ..)
    · refine (closeFrame_returnCells s c.cells.length).trans ?_
      simp only [closeCandidate]; split
      · exact (closeFrame_renewLease ..).trans (closeFrame_updateRecord ..)
      · split
        · split
          · exact ((closeFrame_renewLease ..).trans (closeFrame_updateRecord ..)).trans
              (closeFrame_completeAdmission ..)
          · exact (closeFrame_renewLease ..).trans (closeFrame_updateRecord ..)
        · exact (closeFrame_renewLease ..).trans (closeFrame_updateRecord ..)
    · refine (closeFrame_returnCells s c.cells.length).trans ?_
      simp only [closeTagWait]; exact (closeFrame_renewLease ..).trans (closeFrame_updateRecord ..)
    · refine (closeFrame_returnCells s c.cells.length).trans ?_
      exact (closeFrame_updateRecord ..)
    all_goals try
      (refine (closeFrame_returnCells s c.cells.length).trans ?_
       simp only [closeRequalifying]; split
       · exact (closeFrame_renewLease ..).trans (closeFrame_updateRecord ..)
       · split
         · split
           · exact ((closeFrame_renewLease ..).trans (closeFrame_updateRecord ..)).trans (closeFrame_requalify ..)
           · exact (closeFrame_renewLease ..).trans (closeFrame_updateRecord ..)
         · split
           · exact ((closeFrame_renewLease ..).trans (closeFrame_updateRecord ..)).trans
               (closeFrame_beginRetirement ..)
           · exact (closeFrame_renewLease ..).trans (closeFrame_updateRecord ..))
    · refine (closeFrame_returnCells s c.cells.length).trans ?_
      simp only [closeRetiring]; split
      · exact (closeFrame_updateFeeder ..).trans (closeFrame_updateRecord ..)
      · exact (closeFrame_updateFeeder ..)
    · exact closeFrame_returnCells ..
    · exact closeFrame_returnCells ..

theorem State.closeFrame_takeClose (s : State) (c : FrameClose) : s.CloseFrame (s.takeClose c) :=
  ((closeFrame_updateFeeder ..).trans (closeFrame_handleClose ..)).trans (closeFrame_grantIfReleased ..)

end Sys2Proof.Machine
end

