-- ==== Sys2Proof/Tests/Slice0.lean ====
section
/-! SUPPORT. The model's own tests: the ill-formed terms that `Instr.wellFormed` refuses, bytes of the three connections worked
out by hand from Section 11, one or two steps of each command, and for each statement of
Certificates/Slice0/Obligations.lean a witness that meets its hypotheses. -/

namespace Sys2Proof.Tests

open Sys2Proof Sys2Proof.Machine

-- One theorem at a time: each evaluation by the kernel has a thread of its own.
set_option Elab.async false

/-! ### Helpers -/

/-- The state after a command. -/
def after (c : Instr) (s : State) : State :=
  match exec c s with
  | .next t => t
  | .fault _ | .refused _ => s

/-- A LIVE record with the key F7/S15, the tag T31 and the geometry of format 15 and 2 cells, last seen with frame 255. -/
def live : BindingRecord :=
  { BindingRecord.free with
    state := .live, key := ⟨7, 15⟩, tag := some 30, geometry := some ⟨15, 2⟩, lastFrame := some 0xFF#8
    lease := some 5, announced := true }

/-- The same record in another state, with or without its tag. -/
def inState (st : RecordState) (tag : Option Tag) : BindingRecord := { live with state := st, tag := tag }

/-- A part with link F7 UP, the trunk line and the session UP and full credit, whose record 47 is `r`, holding T31 if it names
a tag. -/
def part (r : BindingRecord) : State :=
  { State.reset with
    records := State.reset.records.set 47 r
    feeders := State.reset.feeders.set 7 { FeederLink.initial with state := .up }
    tags := if r.tag.isSome then
        { TagManager.initial with
          table := TagManager.initial.table.set 30 (.held 47), freeList := (List.finRange 31).erase 30 }
      else TagManager.initial
    trunk := { Transmitter.initial with credit := 4095 }
    line := .up
    notice := { NoticeUnit.initial with session := .up } }

/-- The part with its session in another state. -/
def inSession (x : Session) (s : State) : State := { s with notice.session := x }

/-- A STORED frame of two cells on F7/S15, frame number 0. -/
def frame : OpenFrame :=
  { stream := 15, format := 15, frameNumber := 0#8, storage := .stored, cellsReceived := 2, cells := [[], []],
    parityFailed := false, crc := 0x1234#16, overrun := false }

/-- The part with a frame open on F7. -/
def withFrame (f : OpenFrame) (s : State) : State := s.putFeeder 7 { s.feeder 7 with frame := some f }

/-- A good close of that frame. -/
def close : FrameClose :=
  { key := ⟨7, 15⟩, good := true, truncated := false, geometry := ⟨15, 2⟩, frameNumber := 0#8, stored := true,
    overrun := false, cells := [[], []] }

/-- The part with a command in hand: the bytes of the command block from byte 0, and 00h in the rest. -/
def command (bytes : List Byte) (s : State) : State :=
  { s with host.mailbox := .busy, host.command := Vector.ofFn fun i => bytes.getD i.val 0#8 }

/-- A descriptor of record 47 under T31 with one cell. -/
def descriptor : Descriptor :=
  { binding := some 47, tag := 30, cells := [[0xAA#8]], frameNumber := 9#8, priority := .normal, inTransmission := false }

/-- The part with that descriptor in transmission, naming `b`. -/
def sending (b : Option BindingNo) (s : State) : State :=
  { s with trunk.queue := [{ descriptor with binding := b, inTransmission := true }], trunk.output := .busy .data [] }

/-- The part with one window entry for record 47, of sequence number 7. -/
def withEntry (kind : NoticeKind) (count : Nat) (timer : Option Nat) (s : State) : State :=
  { s with notice.window := [⟨7#8, kind, 47, 30, count, timer⟩] }

/-- The part with a class of other parameters. -/
def withClass (c : ClassNo) (p : PolicyClass) (s : State) : State := { s with classes := s.classes.set c p }

/-- A sweep for every record but FREE ones, at a cursor. -/
def sweeping (action : SweepAction) (cursor : Nat) (s : State) : State :=
  { s with sweep := ⟨true, some ⟨none, none, 0x01FE#16, true, action⟩, cursor, 0, 0, false⟩ }

/-! ### Well-formedness -/

theorem test_recognised_marker_refused : (Instr.unrecognisedMarker 0 [0xB1#8, 0#8, 0#8, 0#8]).wellFormed = false := by decide
theorem test_credit_above_4095_refused : (Instr.credit 4096#16).wellFormed = false := by decide
theorem test_passing_message_refused :
    (Instr.discardedReturnMessage (withCrc [0x82#8, 7#8])).wellFormed = false := by decide +kernel
theorem test_command_write_not_ignored : (Instr.ignoredWrite 0x03#7 []).wellFormed = false := by decide
theorem test_go_write_not_ignored : (Instr.ignoredWrite 0x04#7 [1#8]).wellFormed = false := by decide
theorem test_well_formed_terms :
    (Instr.unrecognisedMarker 0 [0xB1#8, 0#8, 0#8]).wellFormed ∧ (Instr.credit 4095#16).wellFormed ∧
      (Instr.discardedReturnMessage [0x82#8, 7#8, 0#8, 0#8]).wellFormed ∧ (Instr.ignoredWrite 0x05#7 [1#8]).wellFormed := by
  decide +kernel

/-! ### Bytes of the connections (Section 11) -/

/-- The check value of the CRC-16 of R34 (generator 1021h, start FFFFh, no reflection): 29B1h over "123456789". -/
theorem test_crc16_check_value :
    crc16 [0x31#8, 0x32#8, 0x33#8, 0x34#8, 0x35#8, 0x36#8, 0x37#8, 0x38#8, 0x39#8] = 0x29B1#16 := by decide +kernel
/-- Table 11-A: an OPEN carries format in bits 7:4 and stream in bits 3:0 of byte 1, and the frame number in byte 2. -/
theorem test_open_word : decodeMarker 3 [0xB1#8, 0xA5#8, 0x42#8, 0x00#8] = .openMarker 3 10 5 0x42#8 := by decide
/-- Table 11-A: a CLOSE carries the cell count and the CRC, high byte first. -/
theorem test_close_word : decodeMarker 0 [0xB3#8, 0x60#8, 0x12#8, 0x34#8] = .frameClose 0 0x60#8 0x1234#16 := by decide
theorem test_cell_word : decodeMarker 1 [0xB2#8, 0x01#8, 0x01#8] = .cellMarker 1 [0x01#8, 0x01#8] := by decide
theorem test_unknown_marker : decodeMarker 1 [0xB4#8, 0x01#8] = .unrecognisedMarker 1 [0xB4#8, 0x01#8] := by decide
/-- Table 11-C: a NAK of sequence number 9 with reason UNKNOWN_TAG. -/
theorem test_nak_word : decodeReturn (withCrc [0x83#8, 9#8, 0x02#8]) = .nak 9#8 .unknownTag := by decide +kernel
/-- Table 11-C: a CREDIT of 0FFFh; an increment of 1000h does not pass (R197). -/
theorem test_credit_word : decodeReturn (withCrc [0x84#8, 0x0F#8, 0xFF#8]) = .credit 0x0FFF#16 := by decide +kernel
theorem test_credit_word_too_large :
    decodeReturn (withCrc [0x84#8, 0x10#8, 0x00#8]) = .discardedReturnMessage (withCrc [0x84#8, 0x10#8, 0x00#8]) := by
  decide +kernel
/-- Section 11-4: bit 7 of the address byte is 1 for a read. -/
theorem test_spi_words :
    decodeTransaction 0x81#8 [0#8] = .statusWindowRead 1#7 1 ∧ decodeTransaction 0x03#8 [9#8] = .commandWrite [9#8] ∧
      decodeTransaction 0x04#8 [] = .go [] ∧ decodeTransaction 0x05#8 [1#8] = .ignoredWrite 5#7 [1#8] := by decide
/-- R178: "A byte left incomplete when chip select goes high is discarded": a write to COMMAND of one byte and seven bits, and a
transaction of seven bits. -/
theorem test_incomplete_byte_discarded :
    decodeSpi ([false, false, false, false, false, false, true, true] ++
        [false, false, false, false, true, false, false, true] ++ List.replicate 7 true) = some (.commandWrite [9#8]) ∧
      decodeSpi (List.replicate 7 true) = none := by decide
/-- The table gives no row any bits. -/
theorem test_no_word_spells_a_command : decodeTableWord 16 0xFFFF = none := rfl

/-! ### One or two steps of each command -/

/-- R33: the OPEN of a LIVE key is STORED, of any other key TRACKED. -/
theorem test_open_marker_storage :
    ((after (.openMarker 7 15 15 0#8) (part live)).feeder 7).frame.map (·.storage) = some .stored ∧
      ((after (.openMarker 7 15 14 0#8) (part live)).feeder 7).frame.map (·.storage) = some .tracked := by decide +kernel
/-- R35: an OPEN over an open frame is a bad close of the first. -/
theorem test_open_marker_truncates :
    ((after (.openMarker 7 15 15 1#8) (withFrame frame (part live))).feeder 7).badFrames = 1 := by decide +kernel
/-- R34, R40: a CELL of a stored frame takes one cell. -/
theorem test_cell_marker_reserves :
    (after (.cellMarker 7 (List.replicate 33 0#8)) (withFrame frame (part live))).freeCells = 1535 := by decide +kernel
/-- R41: without a free cell the frame gives its cells up and OVERRUN is raised. -/
theorem test_cell_marker_overruns :
    let t := after (.cellMarker 7 (List.replicate 33 0#8)) { withFrame frame (part live) with freeCells := 0 }
    t.freeCells = 2 ∧ t.attention.part = 0x02#6 := by decide +kernel
/-- R88, R131: a good close of a LIVE key is appended and its DATA frame begins at once. -/
theorem test_frame_close_forwards :
    let t := after (.frameClose 7 2#8 0x1234#16) (withFrame frame (part live))
    (t.record 47).forwarded = 1 ∧ t.trunk.credit = 4093 ∧ t.trunk.queue.length = 1 := by decide +kernel
/-- R36, R91: a wrong CRC makes the frame bad: withheld and counted. -/
theorem test_frame_close_bad :
    let t := after (.frameClose 7 2#8 0x1235#16) (withFrame frame (part live))
    (t.record 47).bad = 1 ∧ (t.record 47).withheld = 1 ∧ t.freeCells = 1538 := by decide +kernel
theorem test_unrecognised_marker : after (.unrecognisedMarker 7 [0xB1#8]) (part live) = part live := by decide +kernel
/-- R29: a SEEKING link goes UP and LINK (bit 5) is raised. -/
theorem test_line_lock :
    let t := after (.lineLock 2) ((part live).putFeeder 2 { FeederLink.initial with state := .seeking })
    (t.feeder 2).state = .up ∧ t.attention.part = 0x20#6 := by decide +kernel
/-- R24, R95 (log 26): a record unpinned with its suspension faults at 63 is retired at its next bad close. -/
theorem test_faults_at_63_retire :
    let r := { inState .suspended (some 30) with faults := 63 }
    let s := part r
    (((s.takeClose { close with good := false }).record 47).cause = some .fault) ∧
      (((part { r with pinned := true }).takeClose { close with good := false }).record 47).state = .suspended := by
  decide +kernel
theorem test_lock_loss :
    let t := after (.lockLoss 7) (withFrame frame (part live))
    (t.feeder 7).state = .seeking ∧ (t.feeder 7).lockLosses = 1 ∧ (t.feeder 7).framesSeen = 1 ∧
      (t.record 47).bad = 1 := by decide +kernel
/-- R102: a lease that runs out retires an unpinned LIVE record, whose UNBIND is begun at once. -/
theorem test_lease_expiry_retires :
    let t := after (.leaseExpiry 47) (part { live with lease := some 0 })
    (t.record 47).state = .retiring ∧ (t.record 47).phase = .outstanding ∧ (t.record 47).cause = some .lease := by
  decide +kernel
/-- R103: and silences a pinned one. -/
theorem test_lease_expiry_silences :
    ((after (.leaseExpiry 47) (part { live with lease := some 0, pinned := true })).record 47).state = .silent := by
  decide +kernel
/-- R73: the waiter takes the head of the free list, T1. -/
theorem test_hold_off_expiry_grants :
    let s := part (inState .tagWait none)
    let t := after .holdOffExpiry { s with tags := { s.tags with waitQueue := [47], holdOffDue := true } }
    (t.record 47).tag = some 0 ∧ (t.record 47).state = .announcing ∧ t.tags.waitQueue = [] := by decide +kernel
/-- R137: the cell returns and frames sent rises. -/
theorem test_send_completion :
    let t := after .sendCompletion (sending (some 47) (part { live with inFlight := 1 }))
    t.freeCells = 1537 ∧ t.counters.framesSent = 1 ∧ (t.record 47).inFlight = 0 ∧ t.trunk.output = .idle := by
  decide +kernel
/-- R157: the timer starts at the notice timeout, 20 ms after power-on. -/
theorem test_notice_end :
    let s := withEntry .unbind 1 none (part (inState .retiring (some 30)))
    ((after .noticeEnd { s with trunk.output := .busy (.notice 7#8) [] }).windowEntry 7#8).map (·.timer) =
      some (some 20) := by decide +kernel
theorem test_line_up : (after .lineUp State.reset).line = .up := by decide +kernel
/-- R138, R151: a DATA frame is cut off, its cell returns, and the session goes RESYNC. -/
theorem test_line_down :
    let t := after .lineDown (sending (some 47) (part { live with inFlight := 1 }))
    t.line = .down ∧ t.counters.framesPurged = 1 ∧ t.freeCells = 1537 ∧ t.notice.session = .resync ∧
      (t.record 47).state = .announcing := by decide +kernel
/-- R133: the credit saturates at 4095. -/
theorem test_credit : (after (.credit 5#16) { part live with trunk.credit := 4092 }).trunk.credit = 4095 := by decide +kernel
theorem test_discarded_return_message : after (.discardedReturnMessage [0x82#8]) (part live) = part live := by decide +kernel
/-- R149: the session goes UP and an ANNOUNCING record's BIND is begun. -/
theorem test_hello_ack :
    let s := inSession .resync (part { inState .announcing (some 30) with phase := .awaitSession, announced := false })
    let t := after (.helloAck 4#8) { s with notice.number := 4#8, notice.hello := some ⟨1, some 3, false⟩ }
    t.notice.session = .up ∧ t.notice.hello = none ∧ (t.record 47).phase = .outstanding ∧ t.trunk.credit = 0 := by
  decide +kernel
/-- R150: another number is stray. -/
theorem test_hello_ack_stray :
    (after (.helloAck 5#8) (inSession .opening (part live))).counters.strayReplies = 1 := by decide +kernel
/-- R86: an ACK of the BIND brings the record LIVE. -/
theorem test_ack_bind :
    let s := withEntry .bind 1 (some 3) (part { inState .announcing (some 30) with phase := .outstanding })
    let t := after (.ack 7#8) s
    (t.record 47).state = .live ∧ t.notice.window = [] ∧ (t.record 47).reasons = 0x01#5 := by decide +kernel
/-- R77, R119: an ACK of the UNBIND completes the record and frees its tag. -/
theorem test_ack_unbind :
    let s := withEntry .unbind 1 (some 3) (part { inState .retiring (some 30) with phase := .outstanding })
    let t := after (.ack 7#8) s
    (t.record 47).state = .retired ∧ t.tagEntry 30 = .free 0 ∧ t.tags.freeList.getLast? = some 30 := by decide +kernel
/-- R160: NO_ROOM to a first BIND completes the record with cause REFUSED. -/
theorem test_nak_refuses :
    let r := { inState .announcing (some 30) with phase := .outstanding, announced := false }
    let t := after (.nak 7#8 .noRoom) (withEntry .bind 1 (some 3) (part r))
    (t.record 47).state = .retired ∧ (t.record 47).cause = some .refused := by decide +kernel
theorem test_resync_request :
    let t := after .resyncRequest (part live)
    t.notice.session = .resync ∧ t.notice.number = 1#8 ∧ (t.record 47).announced = false := by decide +kernel
/-- R148: the fourth expiry ends the session in FAILED. -/
theorem test_hello_timer_expiry :
    let s := { inSession .opening (part live) with notice.hello := some ⟨4, some 0, false⟩ }
    (after .helloTimerExpiry s).notice.session = .failed := by decide +kernel
/-- R157: below count 4 the entry is sent again. -/
theorem test_notice_timer_expiry :
    let s := withEntry .unbind 3 (some 0) (part (inState .retiring (some 30)))
    ((after (.noticeTimerExpiry 7#8) s).windowEntry 7#8).map (·.count) = some 4 := by decide +kernel
/-- R79: at count 4 an UNBIND's tag is stranded with its sequence number. -/
theorem test_notice_timer_exhaustion :
    let s := withEntry .unbind 4 (some 0) (part (inState .retiring (some 30)))
    let t := after (.noticeTimerExpiry 7#8) s
    t.tagEntry 30 = .stranded 7#8 ∧ (t.record 47).strandedNote = true := by decide +kernel
/-- R125, R127: the visit of record 47 ends the sweep and raises SWEEP_DONE. -/
theorem test_sweep_visit_ends :
    let t := after .sweepVisit (sweeping .clearCounters 47 (part { live with bad := 3 }))
    t.sweep.running = false ∧ t.sweep.acted = 1 ∧ (t.record 47).bad = 0 ∧ t.attention.part = 0x10#6 := by decide +kernel
/-- Table 11-D: mailbox DONE in bits 1:0, COLLISION in bit 2, session UP (2) in bits 7:4; the read clears COLLISION. -/
theorem test_status_window_read :
    let s := part live
    let t := after (.statusWindowRead 1#7 2) { s with host.mailbox := .done, host.collision := true }
    t.host.miso = some [0x26#8, 0x00#8] ∧ t.host.collision = false := by decide +kernel
theorem test_command_write :
    (after (.commandWrite [2#8, 47#8]) (part live)).host.command.toList = [2#8, 47#8] ++ List.replicate 14 0#8 := by
  decide +kernel
theorem test_command_write_busy : (after (.commandWrite [2#8]) (command [1#8] State.reset)).host.collision = true := by
  decide +kernel
theorem test_go : (after (.go [0#8]) State.reset).host.mailbox = .busy := by decide +kernel
theorem test_ignored_write : after (.ignoredWrite 5#7 [1#8]) (part live) = part live := by decide +kernel
theorem test_unknown_command :
    ((after .unknownCommand (command [0x15#8] State.reset)).host.response.toList.take 2) = [0x10#8, 0x15#8] := by
  decide +kernel
/-- Table 11-J at power-on: no HELLO reads 7, 31 tags FREE and ready, 1536 = 600h cells. -/
theorem test_status :
    (after .status (command [1#8] State.reset)).host.response.toList.take 13 =
      [0x00#8, 0x01#8, 0x00#8, 0x00#8, 0xFF#8, 0x00#8, 0x00#8, 0x00#8, 0x00#8, 0x00#8, 0xFE#8, 0x00#8, 0x00#8] := by
  decide +kernel
/-- Table 11-G: class 0 and number 47, LIVE (4), key F7/S15, tag 31, LIVE reason pending, 2 cells, last frame FFh. -/
theorem test_read_record :
    (after .readRecord (command [2#8, 47#8] (part { live with reasons := 0x01#5 }))).host.response.toList.take 11 =
      [0x00#8, 0x02#8, 0x2F#8, 0x04#8, 0x7F#8, 0x1F#8, 0x01#8, 0x02#8, 0x80#8, 0x0F#8, 0xFF#8] := by decide +kernel
theorem test_lookup_key :
    (after .lookupKey (command [3#8, 7#8, 15#8] (part live))).host.response[2] = 0x2F#8 ∧
      (after .lookupKey (command [3#8, 7#8, 14#8] (part live))).host.response[0] = 0x13#8 := by decide +kernel
theorem test_lookup_tag :
    (after .lookupTag (command [4#8, 31#8] (part live))).host.response[2] = 0x2F#8 ∧
      (after .lookupTag (command [4#8, 30#8] (part live))).host.response[0] = 0x13#8 := by decide +kernel
/-- R58, R59: the lowest FREE record, a CANDIDATE with T5 held. -/
theorem test_provision :
    let t := after .provision (command [5#8, 1#8, 2#8, 3#8, 1#8, 5#8] (part live))
    (t.record 0).state = .candidate ∧ (t.record 0).origin = .provisioned ∧ t.tagEntry 4 = .held 0 ∧
      t.host.response[0] = 0x00#8 := by decide +kernel
theorem test_provision_key_exists :
    (after .provision (command [5#8, 7#8, 15#8] (part live))).host.response[0] = 0x14#8 := by decide +kernel
theorem test_modify :
    let t := after .modify (command [6#8, 47#8, 3#8, 1#8] (part live))
    (t.record 47).cls = 3 ∧ (t.record 47).pinned = true := by decide +kernel
/-- R115, R121: RETIRE of a LIVE record with nothing in flight owes its UNBIND, which begins at once. -/
theorem test_retire :
    let t := after .retire (command [7#8, 47#8] (part live))
    (t.record 47).cause = some .host ∧ t.host.response.toList.take 4 = [0x00#8, 0x07#8, 0x2F#8, 0x07#8] ∧
      t.notice.window.length = 1 := by decide +kernel
theorem test_release_tag :
    let s := (part BindingRecord.free).setTagEntry 30 (.stranded 9#8)
    let t := after .releaseTag (command [8#8, 31#8] { s with tags.strandedCount := 1 })
    t.tagEntry 30 = .free 0 ∧ t.tags.strandedCount = 0 := by decide +kernel
/-- R174: 47 is followed by 0. -/
theorem test_next_attention :
    let t := after .nextAttention (command [9#8] (part { live with reasons := 0x01#5 }))
    t.attention.cursor = 0 ∧ t.host.response[2] = 0x2F#8 ∧ t.host.response[15] = 0x02#8 := by decide +kernel
/-- R120: acknowledging the RETIRED reason of a RETIRED record frees it. -/
theorem test_ack_attention_frees :
    let t := after .ackAttention (command [10#8, 47#8, 0x10#8] (part { inState .retired none with reasons := 0x10#5 }))
    t.record 47 = BindingRecord.free := by decide +kernel
theorem test_ack_attention_part :
    (after .ackAttention (command [10#8, 0xFF#8, 0x3E#8] { State.reset with attention.part := 0x3F#6 })).attention.part =
      0x01#6 := by decide +kernel
/-- Table 11-F: 0FFFh is 4095 ms; options 101b are EXPEDITED and auto-clear. -/
theorem test_set_class :
    (after .setClass (command [11#8, 3#8, 1#8, 15#8, 63#8, 0x0F#8, 0xFF#8, 5#8] State.reset)).classes[3] =
      ⟨1, 15, 63, 4095, .expedited, false, true⟩ := by decide +kernel
theorem test_set_link_enables :
    ((after .setLink (command [12#8, 0#8, 1#8, 2#8] State.reset)).feeder 0).state = .seeking := by decide +kernel
/-- R31: DISABLE abandons the frame and begins the retirement of the link's records. -/
theorem test_set_link_disables :
    let t := after .setLink (command [12#8, 7#8, 0#8, 0#8] (withFrame frame (part live)))
    (t.feeder 7).state = .disabled ∧ t.freeCells = 1538 ∧ (t.record 47).cause = some .linkOff ∧
      t.host.response[3] = 0x01#8 := by decide +kernel
theorem test_read_link :
    (after .readLink (command [13#8, 7#8] (withFrame frame (part live)))).host.response.toList.take 6 =
      [0x00#8, 0x0D#8, 0x07#8, 0x12#8, 0x0F#8, 0x02#8] := by decide +kernel
theorem test_set_timing :
    let t := after .setTiming (command [14#8, 255#8, 0x03#8, 0xFF#8, 8#8] State.reset)
    t.notice.timeout = 255 ∧ t.tags.holdOff = 1023 ∧ t.tags.strandedThreshold = 8 := by decide +kernel
/-- R69: between the tick at which the head reaches the hold-off and the expiry, a SET TIMING that leaves the hold-off at 100
grants nothing, and the expiry then grants; one that lowers it to 99 grants itself. -/
theorem test_set_timing_at_the_tick :
    let young := (part (inState .tagWait none)).setTagEntry 0 (.free 99)
    let due := after .timebaseTick { young with tags := { young.tags with waitQueue := [47] } }
    let same := after .setTiming (command [14#8, 20#8, 0#8, 100#8, 3#8] due)
    let lower := after .setTiming (command [14#8, 20#8, 0#8, 99#8, 3#8] due)
    (same.record 47).tag = none ∧ ((after .holdOffExpiry same).record 47).tag = some 0 ∧
      (lower.record 47).tag = some 0 := by decide +kernel
theorem test_set_attention_enables :
    let t := after .setAttentionEnables (command [15#8, 0x11#8, 0x2A#8] State.reset)
    t.attention.recordEnables = 0x11#5 ∧ t.attention.partEnables = 0x2A#6 := by decide +kernel
/-- R146, R148: TRUNK OPEN issues a HELLO, which the arbiter begins when the line is UP. -/
theorem test_trunk_open :
    let t := after .trunkOpen (command [16#8] { State.reset with line := .up })
    t.notice.session = .opening ∧ t.trunk.output = .busy .hello (withCrc [0#8, 1#8, 1#8]) := by decide +kernel
theorem test_trunk_close : (after .trunkClose (command [17#8] (part live))).notice.session = .closed := by decide +kernel
theorem test_sweep :
    (after .sweep (command [18#8, 0xFF#8, 3#8, 0x01#8, 0xFE#8, 1#8, 2#8] State.reset)).sweep =
      ⟨true, some ⟨none, some 3, 0x01FE#16, true, .clearCounters⟩, 0, 0, 0, false⟩ := by decide +kernel
theorem test_abort_sweep :
    let t := after .abortSweep (command [19#8] (sweeping .retire 5 (part live)))
    t.sweep.aborted = true ∧ t.host.response[2] = 0x02#8 ∧ t.host.response[3] = 5#8 := by decide +kernel
theorem test_restart :
    let t := after .restart (command [20#8] (sending (some 47) (part live)))
    t.record 47 = BindingRecord.free ∧ t.freeCells = 1535 ∧ t.host.response[1] = 20#8 := by decide +kernel
theorem test_reset_assertion : (after .resetAssertion (part live)).attnLow = false := by decide +kernel
theorem test_power_on_reset : after .powerOnReset (part live) = State.reset := by decide +kernel
/-- R15, R68: a lease of 1 ms comes to 0, and an age stops at 1023. -/
theorem test_timebase_tick :
    let t := after .timebaseTick (part { live with lease := some 1 })
    (t.record 47).lease = some 0 ∧ t.tagEntry 0 = .free 1023 := by decide +kernel

/-! ### Witnesses: for each statement, a concrete state and operands that meet the hypotheses of each of its clauses, at the
boundary values where a clause has a range -/

theorem witness_StepTakesFront :
    ({ part live with pending := [.holdOffExpiry, .go []] } : State).pending = .holdOffExpiry :: [.go []] ∧
      (part live).pending = [] := by decide +kernel

theorem witness_ResetPinIsObeyed :
    ({ part live with resetAsserted := true } : State).resetAsserted = true ∧
      Instr.holdOffExpiry ≠ .resetAssertion ∧ Instr.holdOffExpiry ≠ .powerOnReset := by decide +kernel

theorem witness_ResetValues : ∃ (h : Nat) (t : Tag), h ≤ 1023 ∧ h = 1023 ∧ t = 30 := ⟨1023, 30, le_refl _, rfl, rfl⟩

theorem witness_RestartTakesEffect : (command [0x14#8] (sending (some 47) (part live))).inHand 0x14#8 :=
  ⟨rfl, rfl, by decide +kernel⟩

theorem witness_OpenMarkerOpensFrame :
    (part live).awake ∧ ((part live).feeder 7).state = .up ∧ ((part live).feeder 7).frame = none :=
  ⟨rfl, by decide +kernel⟩

theorem witness_OpenMarkerTruncates :
    let s := withFrame frame (part live)
    s.awake ∧ (s.feeder 7).state = .up ∧ (s.feeder 7).frame = some frame := ⟨rfl, by decide +kernel⟩

theorem witness_CellMarkerAddsToFrame :
    let tracked := { frame with storage := .tracked, cells := [] }
    let last := { frame with cellsReceived := 95 }
    let full := { frame with cellsReceived := 96 }
    let one := { withFrame last (part live) with freeCells := 1 }
    let none := { withFrame last (part live) with freeCells := 0 }
    one.awake ∧
    (((withFrame tracked (part live)).feeder 7).state = .up ∧
      ((withFrame tracked (part live)).feeder 7).frame = some tracked ∧ tracked.storage = .tracked) ∧
    ((one.feeder 7).frame = some last ∧ last.storage = .stored ∧ min (last.cellsReceived + 1) 97 ≤ 96 ∧
      0 < one.freeCells) ∧
    ((none.feeder 7).frame = some last ∧ none.freeCells = 0) ∧
    (((withFrame full (part live)).feeder 7).frame = some full ∧ full.storage = .stored ∧
      min (full.cellsReceived + 1) 97 = 97) := ⟨rfl, by decide +kernel⟩

theorem witness_StrayMarkersAreDiscarded :
    (part live).awake ∧ ((part live).feeder 7).state = .up ∧ ((part live).feeder 7).frame = none :=
  ⟨rfl, by decide +kernel⟩

theorem witness_InputsThatChangeNothing :
    ((part live).feeder 0).state ≠ .up ∧ State.reset.line = .down := by decide +kernel

theorem witness_LineLockAndLockLoss :
    let seeking := (part live).putFeeder 2 { FeederLink.initial with state := .seeking }
    let open' := withFrame frame (part live)
    seeking.awake ∧ open'.awake ∧ (part live).awake ∧ (seeking.feeder 2).state = .seeking ∧
      (((part live).feeder 7).state = .up ∧ ((part live).feeder 7).frame = none) ∧
      ((open'.feeder 7).state = .up ∧ (open'.feeder 7).frame = some frame) ∧
      ((part live).feeder 7).state ≠ .seeking ∧ (seeking.feeder 2).state ≠ .up := ⟨rfl, rfl, rfl, by decide +kernel⟩

theorem witness_FrameCloseIsJudged :
    let s := withFrame frame (part live)
    s.awake ∧ (s.feeder 7).state = .up ∧ (s.feeder 7).frame = some frame := ⟨rfl, by decide +kernel⟩

theorem witness_CloseOfUnknownKey :
    let s := withClass 0 { PolicyClass.default with admissionCount := 2 } (part BindingRecord.free)
    let full := { s with records := Vector.replicate 48 (inState .retired none) }
    s.resolveKey close.key = none ∧ full.resolveKey close.key = none ∧
      { close with good := false }.good = false ∧ { close with overrun := true }.overrun = true ∧
      (close.good = true ∧ close.overrun = false ∧ full.lowestFree = none) ∧
      s.lowestFree = some 0 ∧ 1 < s.classes[(s.feeder close.key.link).defaultClass].admissionCount := by decide +kernel

theorem witness_CloseOfCandidate :
    let r := { inState .candidate none with run := 1, trial := some ⟨15, 2⟩ }
    let s := part r
    s.resolveKey close.key = some 47 ∧ (s.record 47).state = .candidate ∧
      ({ close with overrun := true }.good = true ∧ { close with overrun := true }.overrun = true) ∧
      { close with good := false }.good = false ∧
      close.good = true ∧ close.overrun = false ∧ r.runAfter close = 2 ∧ (s.classOf 47).admissionCount = 3 := by
  decide +kernel

theorem witness_AdmissionCompletes :
    let r := { inState .candidate none with run := 2, trial := some ⟨15, 2⟩ }
    let s := part r
    let fixed := part { r with tag := some 30 }
    let young := s.setTagEntry 0 (.free 99)
    let waited := { s with tags := { s.tags with waitQueue := [46] } }
    let free := withClass 0 { PolicyClass.default with admissionCount := 1 } (part BindingRecord.free)
    (close.good = true ∧ close.overrun = false) ∧
    (s.resolveKey close.key = some 47 ∧ (s.record 47).state = .candidate ∧
      (s.classOf 47).admissionCount = (s.record 47).runAfter close ∧ s.tags.waitQueue = [] ∧ s.tagReady 0 = true) ∧
    (fixed.resolveKey close.key = some 47 ∧ (fixed.record 47).state = .candidate ∧
      (fixed.classOf 47).admissionCount ≤ (fixed.record 47).runAfter close ∧ (fixed.record 47).tag = some 30) ∧
    (young.resolveKey close.key = some 47 ∧ (young.record 47).state = .candidate ∧
      (young.classOf 47).admissionCount ≤ (young.record 47).runAfter close ∧ (young.record 47).tag = none ∧
      young.tags.waitQueue = [] ∧ young.tags.freeList.head? = some 0 ∧ young.tagReady 0 = false) ∧
    (waited.resolveKey close.key = some 47 ∧ (waited.record 47).state = .candidate ∧
      (waited.classOf 47).admissionCount ≤ (waited.record 47).runAfter close ∧ (waited.record 47).tag = none ∧
      waited.tags.waitQueue = [46]) ∧
    (free.resolveKey close.key = none ∧ free.lowestFree = some 0 ∧
      free.classes[(free.feeder close.key.link).defaultClass].admissionCount ≤ 1) := by decide +kernel

theorem witness_CloseWithheldOrDiscarded :
    ∀ st : RecordState, st = .tagWait ∨ st = .announcing ∨ st = .retiring →
      (part (inState st none)).resolveKey close.key = some 47 ∧ ((part (inState st none)).record 47).state = st := by
  rintro st (rfl | rfl | rfl) <;> decide +kernel

theorem witness_LiveCloseIsForwarded :
    let s := part live
    let room := { s with trunk.queue := List.replicate 39 descriptor }
    let none := { s with trunk.queue := List.replicate 40 descriptor }
    s.resolveKey close.key = some 47 ∧ (s.record 47).state = .live ∧ (s.record 47).tag = some 30 ∧ close.good = true ∧
      (s.record 47).geometry = some close.geometry ∧ close.stored = true ∧ room.record 47 = s.record 47 ∧
      none.record 47 = s.record 47 ∧ room.trunk.queue.length < 40 ∧ 40 ≤ none.trunk.queue.length := by decide +kernel

theorem witness_LiveCloseIsWithheld :
    let s := part live
    let tired := part { live with consecutiveBad := 3 }
    s.resolveKey close.key = some 47 ∧ (s.record 47).state = .live ∧
      ({ close with stored := false }.good = true ∧ (s.record 47).geometry = some close.geometry ∧
        { close with stored := false }.stored = false) ∧
      { close with good := false }.good = false ∧ (s.record 47).geometry ≠ some { close.geometry with cells := 3 } ∧
      (tired.record 47).state = .live ∧ (tired.classOf 47).faultThreshold = (tired.record 47).consecutiveBad + 1 := by
  decide +kernel

theorem witness_RequalifyingClose :
    let s := part { inState .suspended (some 30) with faults := 14, run := 1, trial := some ⟨15, 2⟩ }
    let silent := part { inState .silent (some 30) with pinned := true, faults := 63 }
    s.resolveKey close.key = some 47 ∧ silent.resolveKey close.key = some 47 ∧ (s.record 47).state = .suspended ∧
      (silent.record 47).state = .silent ∧
      ({ close with overrun := true }.good = true ∧ { close with overrun := true }.overrun = true) ∧
      ({ close with good := false }.good = false ∧ (silent.record 47).pinned = true ∧
        min ((s.record 47).faults + 1) 63 < (s.classOf 47).retireThreshold) ∧
      close.good = true ∧ close.overrun = false ∧ (s.record 47).runAfter close < (s.classOf 47).admissionCount := by
  decide +kernel

theorem witness_RequalificationOutcome :
    let r := { inState .suspended (some 30) with run := 2, trial := some ⟨15, 2⟩, faults := 15 }
    let s := part r
    let gone := part { r with announced := false }
    let other := part { r with geometry := some ⟨15, 3⟩ }
    let reshaping := withClass 0 { PolicyClass.default with reshapeAllowed := true } other
    (∀ u ∈ [s, gone, other, reshaping], u.resolveKey close.key = some 47 ∧ (u.record 47).state = .suspended ∧
      (u.classOf 47).admissionCount ≤ (u.record 47).runAfter close) ∧
    (close.good = true ∧ close.overrun = false) ∧
    ((s.record 47).geometry = some close.geometry ∧ (s.record 47).announced = true) ∧
    ((gone.record 47).geometry = some close.geometry ∧ (gone.record 47).announced = false) ∧
    ((reshaping.record 47).geometry ≠ some close.geometry ∧ (reshaping.classOf 47).reshapeAllowed = true) ∧
    ((other.record 47).geometry ≠ some close.geometry ∧ (other.classOf 47).reshapeAllowed = false) ∧
    { close with good := false }.good = false ∧ (s.record 47).pinned = false ∧
      (s.classOf 47).retireThreshold = min ((s.record 47).faults + 1) 63 := by decide +kernel

theorem witness_RetirementCourse :
    let a (phase : NoticePhase) (announced : Bool) : State :=
      part { inState .announcing (some 30) with phase := phase, announced := announced }
    let f (n : Nat) (announced : Bool) : State := part { live with inFlight := n, announced := announced }
    (∀ st : RecordState, ((part (inState st none)).record 47).state = st) ∧
    ((part (inState .candidate none)).record 47).tag = none ∧
    (((part (inState .candidate (some 30))).record 47).tag = some 30 ∧
      (part (inState .candidate (some 30))).tagEntry 30 = .held 47) ∧
    (((a .outstanding false).record 47).phase = .outstanding ∧ ((a .drain false).record 47).phase = .drain ∧
      ((a .awaitSession false).record 47).phase = .awaitSession) ∧
    (((a .owed true).record 47).phase = .owed ∧ ((a .owed true).record 47).announced = true) ∧
    (((a .owed false).record 47).announced = false ∧ ((a .owed false).record 47).tag = some 30 ∧
      (a .owed false).tagEntry 30 = .held 47) ∧
    0 < ((f 1 true).record 47).inFlight ∧
    (((f 0 true).record 47).inFlight = 0 ∧ ((f 0 true).record 47).announced = true) ∧
    ((inSession .resync (f 0 false)).record 47).announced = false ∧ (inSession .resync (f 0 false)).notice.session ≠ .up ∧
    (((f 0 false).record 47).announced = false ∧ (f 0 false).notice.session = .up ∧
      (f 0 false).tagEntry 30 = .held 47) := by
  refine ⟨fun st => ?_, by decide +kernel⟩
  cases st <;> decide +kernel

theorem witness_LeaseExpiryBranches :
    let e (r : BindingRecord) : State := part { r with lease := some 0 }
    (e live).awake ∧ ((part live).record 47).lease ≠ some 0 ∧
    (((e (inState .candidate none)).record 47).lease = some 0 ∧
      ((e (inState .candidate none)).record 47).state = .candidate ∧
      ((e (inState .candidate none)).record 47).origin = .learnt ∧
      ((e (inState .candidate none)).record 47).pinned = false ∧
      ((e (inState .candidate none)).record 47).tag = none) ∧
    (((e { inState .candidate none with origin := .provisioned }).record 47).origin = .provisioned ∧
      ((e { inState .candidate none with pinned := true }).record 47).pinned = true) ∧
    (((e (inState .tagWait none)).record 47).state = .tagWait ∧ ((e (inState .tagWait none)).record 47).pinned = false) ∧
    ((e { inState .tagWait none with pinned := true }).record 47).pinned = true ∧
    (((e live).record 47).state = .live ∧ ((e live).record 47).pinned = false) ∧
    ((e (inState .suspended (some 30))).record 47).state = .suspended ∧
    ((e { live with pinned := true }).record 47).pinned = true := ⟨rfl, by decide +kernel⟩

theorem witness_TimebaseTickCounts : (part live).awake := rfl

theorem witness_GrantEventGrantsInOrder :
    let s := { (part live).setTagEntry 1 (.free 99) with tags.waitQueue := [5, 3] }
    let t := s.grantEvent
    s.awake ∧ s.tags.waitQueue.Nodup ∧ s.tags.freeList.Nodup ∧
      (s.tags.freeList.take 2 = [0, 1] ∧ s.tagReady 0 = true ∧ s.tagReady 1 = false) ∧
      t.tags.waitQueue = [3] ∧ t.tagEntry 0 = .held 5 ∧ t.tagEntry 1 = .free 99 := ⟨rfl, by decide +kernel⟩

theorem witness_NoticeTimerExpiries :
    let h (count : Nat) : State := { inSession .opening (part live) with notice.hello := some ⟨count, some 0, false⟩ }
    let e (kind : NoticeKind) (count : Nat) : State := withEntry kind count (some 0) (part (inState .retiring (some 30)))
    let near := { e .unbind 4 with tags.strandedThreshold := 1 }
    (part live).awake ∧ (h 3).notice.hello = some ⟨3, some 0, false⟩ ∧ (h 4).notice.hello = some ⟨4, some 0, false⟩ ∧
      (part live).notice.hello = none ∧
      (e .bind 3).windowEntry 7#8 = some ⟨7#8, .bind, 47, 30, 3, some 0⟩ ∧
      (e .bind 4).windowEntry 7#8 = some ⟨7#8, .bind, 47, 30, 4, some 0⟩ ∧
      ((e .unbind 4).windowEntry 7#8 = some ⟨7#8, .unbind, 47, 30, 4, some 0⟩ ∧
        (e .unbind 4).tags.strandedCount + 1 < (e .unbind 4).tags.strandedThreshold) ∧
      (near.windowEntry 7#8 = some ⟨7#8, .unbind, 47, 30, 4, some 0⟩ ∧
        near.tags.strandedThreshold ≤ near.tags.strandedCount + 1) ∧
      (part live).windowEntry 7#8 = none := ⟨rfl, by decide +kernel⟩

theorem witness_SendCompletionReturnsCells :
    let s (r : BindingRecord) : State := sending (some 47) (part r)
    let drain (st : RecordState) (announced : Bool) : State :=
      s { inState st (some 30) with phase := .drain, inFlight := 1, announced := announced }
    (s live).awake ∧ (s live).trunk.output = .busy .data [] ∧
    (s live).trunk.queue.find? (·.inTransmission) = some { descriptor with inTransmission := true } ∧
    (sending none (part live)).trunk.queue.find? (·.inTransmission) =
      some { descriptor with binding := none, inTransmission := true } ∧
    ((s { inState .announcing (some 30) with phase := .drain, inFlight := 2 }).record 47).inFlight = 2 ∧
    (((drain .announcing false).record 47).phase = .drain ∧ ((drain .announcing false).record 47).inFlight ≤ 1 ∧
      ((drain .announcing false).record 47).state = .announcing ∧ (drain .announcing false).notice.session = .up) ∧
    (((drain .retiring true).record 47).state = .retiring ∧ ((drain .retiring true).record 47).announced = true) ∧
    (inSession .resync (drain .announcing false)).notice.session ≠ .up ∧
    (((drain .retiring false).record 47).announced = false ∧ ((drain .retiring false).record 47).tag = some 30 ∧
      (drain .retiring false).tagEntry 30 = .held 47) := ⟨rfl, by decide +kernel⟩

theorem witness_NoticeEndStartsTimer :
    let s := withEntry .bind 1 none (part live)
    s.awake ∧ ({ s with trunk.output := .busy (.notice 7#8) [] } : State).trunk.output = .busy (.notice 7#8) [] ∧
      ({ s with trunk.output := .busy .hello [] } : State).trunk.output = .busy .hello [] ∧ s.trunk.output = .idle ∧
      (sending none s).trunk.output = .busy .data [] := ⟨rfl, by decide +kernel⟩

theorem witness_TrunkLineEvents :
    let s := sending (some 47) (part { live with inFlight := 1 })
    let drain (st : RecordState) : State := inSession .opening (sending (some 47)
      (part { inState st (some 30) with phase := .drain, inFlight := 1, announced := false }))
    s.awake ∧ State.reset.line = .down ∧ (part live).line = .up ∧ (part live).trunk.output = .idle ∧
      (s.line = .up ∧ s.trunk.output = .busy .data [] ∧
        s.trunk.queue.find? (·.inTransmission) = some { descriptor with inTransmission := true } ∧
        s.notice.session = .up) ∧
      (sending none (part live)).trunk.queue.find? (·.inTransmission) =
        some { descriptor with binding := none, inTransmission := true } ∧
      ¬((inSession .opening s).record 47).phase = .drain ∧
      ((drain .announcing).line = .up ∧ (drain .announcing).notice.session ≠ .up ∧
        ((drain .announcing).record 47).phase = .drain ∧ ((drain .announcing).record 47).inFlight ≤ 1 ∧
        ((drain .announcing).record 47).state = .announcing) ∧
      ((drain .retiring).record 47).state = .retiring ∧ ((drain .retiring).record 47).announced = false :=
  ⟨rfl, by decide +kernel⟩

theorem witness_CreditSaturates :
    (part live).hears ∧ (4095#16).toNat ≤ 4095 ∧ 4095 < (4096#16).toNat := ⟨⟨rfl, rfl⟩, by decide⟩

theorem witness_ArbiterOrder :
    let s := part live
    let owing := { s with notice.owed := [47] }
    let ready := { s with trunk.queue := [descriptor, { descriptor with priority := .expedited }] }
    let exact' := { ready with trunk.credit := 1 }
    let short := { ready with trunk.credit := 0 }
    (sending none s).trunk.output ≠ .idle ∧ State.reset.line = .down ∧ s.trunk.output = .idle ∧ s.line = .up ∧
    owing.noticeOffer = some (.first 47 30) ∧
    (s.noticeOffer = none ∧ ∀ x ∈ s.trunk.queue, x.inTransmission = true) ∧
    (ready.noticeOffer = none ∧ ready.trunk.queue = [descriptor] ++ { descriptor with priority := .expedited } :: [] ∧
      (∀ x ∈ [descriptor], x.priority = Priority.expedited → x.inTransmission = true) ∧
      (descriptor.cells.length ≤ exact'.trunk.credit ∧ ready.notice.session = .up ∧ ready.tagEntry 30 = .held 47 ∧
        (ready.record 47).announced = true ∧ (ready.record 47).phase ≠ .outstanding) ∧
      ¬descriptor.cells.length ≤ short.trunk.credit) ∧
    (({ s with trunk.queue := [descriptor] } : State).trunk.queue = [] ++ descriptor :: [] ∧
      descriptor.priority = .normal ∧
      ∀ x ∈ [descriptor], x.priority = Priority.expedited → x.inTransmission = true) := by decide +kernel

theorem witness_DataBeginIsAllowed :
    let s := { part live with trunk.queue := [descriptor] }
    s.trunk.output = .idle ∧ s.arbitrate.trunk.output = .busy .data (dataBytes descriptor) := by decide +kernel

theorem witness_NoticeBeginTakesEntry :
    let hello := { inSession .opening (part live) with notice.hello := some ⟨3, none, true⟩ }
    let again (kind : NoticeKind) : State := { withEntry kind 1 none (part live) with notice.retransmit := [7#8] }
    let first (st : RecordState) : State :=
      { part { inState st (some 30) with phase := .owed } with
        notice.owed := [47], notice.sequence := 7#8
        notice.window := [⟨7#8, .bind, 0, 0, 1, none⟩, ⟨8#8, .bind, 1, 1, 1, none⟩, ⟨9#8, .bind, 2, 2, 1, none⟩] }
    (hello.trunk.output = .idle ∧ hello.line = .up ∧ hello.notice.hello = some ⟨3, none, true⟩) ∧
    (∀ kind ∈ [NoticeKind.bind, .unbind], (again kind).trunk.output = .idle ∧ (again kind).line = .up ∧
      (again kind).notice.hello = none ∧ (again kind).notice.retransmit = 7#8 :: [] ∧
      (again kind).windowEntry 7#8 = some ⟨7#8, kind, 47, 30, 1, none⟩ ∧
      ((again kind).record 47).geometry = some ⟨15, 2⟩) ∧
    ∀ st ∈ [RecordState.retiring, .announcing], (first st).trunk.output = .idle ∧ (first st).line = .up ∧
      (first st).notice.retransmit = [] ∧ (first st).notice.session = .up ∧ (first st).notice.window.length < 4 ∧
      (first st).notice.owed = 47 :: [] ∧ ((first st).record 47).tag = some 30 ∧ ((first st).record 47).state = st ∧
      ((first st).record 47).geometry = some ⟨15, 2⟩ := by decide +kernel

/-- A FREE tag entry, as a test that can be evaluated. -/
theorem isFree_iff (e : TagEntry) : (∃ age, e = .free age) ↔ (match e with | .free _ => true | _ => false) = true := by
  cases e <;> simp

/-- A part in RESYNC with a RETIRING and an ANNOUNCING record that wait for the session, and a STRANDED tag. -/
def waiting : State :=
  { State.reset with
    records := (State.reset.records.set 47 { inState .retiring (some 30) with phase := .awaitSession, announced := false }).set
      3 { inState .announcing (some 29) with phase := .awaitSession, announced := false, key := ⟨0, 0⟩ }
    tags := { TagManager.initial with
      table := ((TagManager.initial.table.set 30 (.held 47)).set 29 (.held 3)).set 28 (.stranded 5#8)
      freeList := (List.finRange 31).take 28, strandedCount := 1 }
    line := .up
    notice := { NoticeUnit.initial with session := .resync, number := 4#8, hello := some ⟨1, some 3, false⟩ } }

theorem witness_HelloAckBringsSessionUp :
    waiting.hears ∧ ¬(5#8 = waiting.notice.number) ∧ 4#8 = waiting.notice.number ∧ waiting.notice.session = .resync ∧
      waiting.TagLaw ∧ (inSession .opening waiting).notice.session = .opening := by
  refine ⟨⟨rfl, rfl⟩, by decide, rfl, rfl, ?_, rfl⟩
  unfold State.TagLaw
  simp only [isFree_iff]
  decide +kernel

theorem witness_AckOutcomes :
    let e (kind : NoticeKind) (st : RecordState) : State :=
      withEntry kind 1 (some 3) (part { inState st (some 30) with phase := .outstanding })
    (∀ p ∈ [(NoticeKind.bind, RecordState.announcing), (.bind, .retiring), (.unbind, .retiring)],
      (e p.1 p.2).resetAsserted = false ∧ (e p.1 p.2).line = .up ∧
        (e p.1 p.2).windowEntry 7#8 = some ⟨7#8, p.1, 47, 30, 1, some 3⟩ ∧
        ((e p.1 p.2).record 47).state = p.2 ∧ (e p.1 p.2).tagEntry 30 = .held 47) ∧
    (waiting.line = .up ∧ waiting.windowEntry 5#8 = none ∧ (∀ y, waiting.tagEntry y = .stranded 5#8 ↔ y = 28) ∧
      ∀ x, ¬∀ y, waiting.tagEntry y = .stranded 6#8 ↔ y = x) := by decide +kernel

theorem witness_NakOutcomes :
    let e (kind : NoticeKind) (st : RecordState) (announced : Bool) : State :=
      withEntry kind 1 (some 3) (part { inState st (some 30) with phase := .outstanding, announced := announced })
    (∀ p ∈ [(NoticeKind.bind, RecordState.announcing, false), (.bind, .announcing, true), (.bind, .retiring, false),
        (.bind, .retiring, true), (.unbind, .retiring, true)],
      (e p.1 p.2.1 p.2.2).resetAsserted = false ∧ (e p.1 p.2.1 p.2.2).line = .up ∧
        (e p.1 p.2.1 p.2.2).windowEntry 7#8 = some ⟨7#8, p.1, 47, 30, 1, some 3⟩ ∧
        ((e p.1 p.2.1 p.2.2).record 47).state = p.2.1 ∧ ((e p.1 p.2.1 p.2.2).record 47).announced = p.2.2 ∧
        (e p.1 p.2.1 p.2.2).tagEntry 30 = .held 47) ∧
    waiting.windowEntry 7#8 = none ∧ NakReason.malformed ≠ .unknownTag ∧ NakReason.malformed ≠ .noRoom := by
  decide +kernel

theorem witness_SessionLossMovesRecords :
    (part live).hears ∧ (part live).notice.session = .up ∧ waiting.hears ∧ waiting.notice.session ≠ .up :=
  ⟨⟨rfl, rfl⟩, rfl, ⟨rfl, rfl⟩, by decide⟩

theorem witness_SweepVisitTestsAndActs :
    let at' (st : RecordState) (action : SweepAction) : State := sweeping action 47 (part (inState st none))
    (∀ st : RecordState, ∀ action : SweepAction, (at' st action).resetAsserted = false ∧
      (at' st action).sweep.running = true ∧
      (at' st action).sweep.job = some ⟨none, none, 0x01FE#16, true, action⟩ ∧ (at' st action).sweep.cursor = 47 ∧
      ((at' st action).record 47).state = st ∧ (st ≠ .free → (0x01FE#16).getLsbD st.code = true)) ∧
    (sweeping .retire 0 (part live)).sweep.cursor = 0 := by
  refine ⟨fun st action => ?_, rfl⟩
  cases st <;> cases action <;> decide +kernel

theorem witness_SweepCommands :
    let bytes := [0x12#8, 7#8, 0xFF#8, 0x01#8, 0xFE#8, 1#8, 3#8]
    let s := command bytes (part live)
    let running := command bytes (sweeping .retire 5 (part live))
    (s.inHand 0x12#8 ∧ running.inHand 0x12#8) ∧
    (s.op 1 = 7 ∧ s.op 2 = 255 ∧ s.op 3 * 256 + s.op 4 = (0x01FE#16).toNat ∧ 0x01FE#16 ≠ 0#16 ∧
      0x01FE#16 &&& 0xFE01#16 = 0#16 ∧ s.op 5 = flagOp true ∧ s.op 6 = 3) ∧
    s.sweep.running = false ∧ running.sweep.running = true ∧
    (command [0x13#8] s).inHand 0x13#8 ∧ (command [0x13#8] running).inHand 0x13#8 := by
  refine ⟨⟨⟨rfl, rfl, by decide +kernel⟩, rfl, rfl, by decide +kernel⟩, by decide +kernel, rfl, rfl, ⟨rfl, rfl, ?_⟩,
    rfl, rfl, ?_⟩ <;> decide +kernel

theorem witness_WindowReadCaptures : (part { live with reasons := 0x01#5 }).awake := rfl

theorem witness_MailboxHandshake :
    ((List.replicate 7 true).length < 8 ∧ (0x81#8 : Byte).getLsbD 7 = true ∧
      ((0x03#8 : Byte).getLsbD 7 = false ∧ (0x03#8 : Byte).setWidth 7 = 0x03#7) ∧
      ((0x04#8 : Byte).getLsbD 7 = false ∧ (0x04#8 : Byte).setWidth 7 = 0x04#7) ∧
      (0x7F#8 : Byte).getLsbD 7 = false ∧ (0x7F#8 : Byte).setWidth 7 ≠ 0x03#7 ∧ (0x7F#8 : Byte).setWidth 7 ≠ 0x04#7) ∧
    (part live).awake ∧ (command [1#8] (part live)).awake ∧ (command [1#8] (part live)).host.mailbox = .busy ∧
      (part live).host.mailbox ≠ .busy := ⟨by decide, rfl, rfl, rfl, by decide⟩

theorem witness_RefusedCommandChangesNothing :
    (∃ t, exec .modify (command [6#8, 48#8] (part live)) = .next t ∧ t.host.mailbox = .done ∧
      0x10 ≤ t.host.response[0].toNat) ∧
    (command [6#8, 48#8] (part live)).host.mailbox = .busy ∧ (command [0#8] (part live)).op 0 = 0 ∧
      20 < (command [21#8] (part live)).op 0 ∧ (command [21#8] (part live)).awake := by
  exact ⟨⟨after .modify (command [6#8, 48#8] (part live)), rfl, by decide +kernel⟩, rfl, rfl, by decide +kernel, rfl⟩

/-- Each command in hand with every operand at the end of its range, and with one operand past it. -/
theorem witness_OperandRangesAreChecked :
    let ok (bytes : List Byte) (i : Instr) : Bool :=
      (after i (command bytes (part live))).host.mailbox == .done &&
        (after i (command bytes (part live))).host.response[0] != 0x11#8
    let out (bytes : List Byte) (i : Instr) : Bool :=
      (after i (command bytes (part live))).host.response.toList.take 2 == [0x11#8, bytes.headD 0#8]
    (ok [1#8, 1#8] .status ∧ out [1#8, 2#8] .status) ∧
    (ok [2#8, 47#8, 1#8] .readRecord ∧ out [2#8, 48#8, 1#8] .readRecord) ∧
    (ok [3#8, 7#8, 15#8, 1#8] .lookupKey ∧ out [3#8, 7#8, 16#8, 1#8] .lookupKey) ∧
    (ok [4#8, 31#8, 1#8] .lookupTag ∧ out [4#8, 32#8] .lookupTag ∧ out [4#8, 0#8] .lookupTag) ∧
    (ok [5#8, 7#8, 15#8, 3#8, 1#8, 31#8] .provision ∧ out [5#8, 7#8, 15#8, 3#8, 1#8, 32#8] .provision) ∧
    (ok [6#8, 47#8, 3#8, 1#8] .modify ∧ out [6#8, 47#8, 4#8, 1#8] .modify) ∧
    (ok [7#8, 47#8] .retire ∧ out [7#8, 48#8] .retire) ∧
    (ok [8#8, 31#8] .releaseTag ∧ out [8#8, 32#8] .releaseTag) ∧
    ok [9#8] .nextAttention ∧
    (ok [10#8, 255#8, 63#8] .ackAttention ∧ ok [10#8, 47#8, 31#8] .ackAttention ∧ out [10#8, 255#8, 64#8] .ackAttention ∧
      out [10#8, 47#8, 32#8] .ackAttention ∧ out [10#8, 48#8, 0#8] .ackAttention) ∧
    (ok [11#8, 3#8, 15#8, 15#8, 63#8, 0x0F#8, 0xFF#8, 7#8] .setClass ∧
      ok [11#8, 0#8, 1#8, 1#8, 1#8, 0#8, 10#8, 0#8] .setClass ∧
      out [11#8, 0#8, 1#8, 1#8, 1#8, 0#8, 9#8, 0#8] .setClass ∧
      out [11#8, 0#8, 1#8, 1#8, 1#8, 0x10#8, 0#8, 0#8] .setClass) ∧
    (ok [12#8, 7#8, 1#8, 3#8] .setLink ∧ out [12#8, 8#8, 1#8, 3#8] .setLink) ∧
    (ok [13#8, 7#8, 1#8] .readLink ∧ out [13#8, 7#8, 2#8] .readLink) ∧
    (ok [14#8, 255#8, 3#8, 0xFF#8, 8#8] .setTiming ∧ ok [14#8, 1#8, 0#8, 0#8, 1#8] .setTiming ∧
      out [14#8, 0#8, 0#8, 0#8, 1#8] .setTiming ∧ out [14#8, 1#8, 4#8, 0#8, 1#8] .setTiming) ∧
    (ok [15#8, 31#8, 63#8] .setAttentionEnables ∧ out [15#8, 32#8, 63#8] .setAttentionEnables) ∧
    (ok [16#8] .trunkOpen ∧ ok [17#8] .trunkClose) ∧
    (ok [18#8, 255#8, 255#8, 1#8, 0xFE#8, 1#8, 3#8] .sweep ∧ ok [18#8, 7#8, 3#8, 0#8, 2#8, 0#8, 1#8] .sweep ∧
      out [18#8, 8#8, 3#8, 0#8, 2#8, 0#8, 1#8] .sweep ∧ out [18#8, 7#8, 3#8, 0#8, 1#8, 0#8, 1#8] .sweep ∧
      out [18#8, 7#8, 3#8, 2#8, 0#8, 0#8, 1#8] .sweep ∧ out [18#8, 7#8, 3#8, 0#8, 0#8, 0#8, 1#8] .sweep) ∧
    ok [19#8] .abortSweep ∧ ok [20#8] .restart := by decide +kernel

theorem witness_StatusReports :
    let s := command [1#8, 1#8] { part live with counters := ⟨4294967295, 0, 0, 0⟩ }
    s.inHand 0x01#8 ∧ s.op 1 = flagOp true ∧ s.notice.window.length ≤ 4 ∧ s.notice.hello = none ∧
      s.notice.owed.length ≤ 48 ∧ s.trunk.queue.length ≤ 40 ∧ s.trunk.credit = 4095 ∧ s.freeCells = 1536 ∧
      s.tags.freeList.length ≤ 31 ∧ s.tags.strandedCount ≤ 31 ∧ s.tags.waitQueue.length ≤ 48 ∧ s.counters.inRange ∧
      s.notice.timeout ≤ 255 ∧ s.tags.holdOff ≤ 1023 ∧ s.tags.strandedThreshold ≤ 8 ∧ s.sweep.cursor ≤ 48 ∧
      s.sweep.matched ≤ 48 ∧ s.sweep.acted ≤ 48 := by
  refine ⟨⟨rfl, rfl, ?_⟩, ?_⟩
  · decide +kernel
  · unfold TrunkCounters.inRange; decide +kernel

theorem witness_SnapshotLayout :
    let r := { live with
      inFlight := 40, lease := some 4095, geometry := some ⟨15, 96⟩, trial := some ⟨0, 96⟩, run := 15, consecutiveBad := 15
      faults := 63, forwarded := 4294967295 }
    r.inRange ∧ r.inFlight ≤ 40 ∧ r.lease = some 4095 ∧ r.geometry = some ⟨15, 96⟩ ∧ r.trial = some ⟨0, 96⟩ := by
  unfold BindingRecord.inRange; decide

theorem witness_RecordReads :
    let s := part live
    let gone := part (inState .retired none)
    ((command [2#8, 47#8, 1#8] s).inHand 0x02#8 ∧ (command [2#8, 47#8, 1#8] s).op 1 = 47 ∧
      (command [2#8, 47#8, 1#8] s).op 2 = flagOp true) ∧
    ((command [3#8, 7#8, 15#8, 0#8] s).inHand 0x03#8 ∧ (command [3#8, 7#8, 15#8, 0#8] gone).inHand 0x03#8 ∧
      s.KeyLaw ∧ gone.KeyLaw) ∧
    ((s.record 47).key = ⟨7, 15⟩ ∧ (s.record 47).state ≠ .free ∧ (s.record 47).state ≠ .retired) ∧
    ((gone.record 47).key = ⟨7, 15⟩ ∧ (gone.record 47).state = .retired ∧
      ∀ x, x < 47 → (gone.record x).key = ⟨7, 15⟩ → (gone.record x).state ≠ .retired) ∧
    (∀ x, (s.record x).key = ⟨6, 15⟩ → (s.record x).state = .free) ∧
    ((command [4#8, 31#8, 0#8] s).inHand 0x04#8 ∧ s.tagEntry 30 = .held 47 ∧ ∀ b, s.tagEntry 0 ≠ .held b) := by
  unfold State.KeyLaw State.inHand
  decide +kernel

theorem witness_ProvisionCreates :
    let bytes := [5#8, 7#8, 15#8, 3#8, 1#8, 31#8]
    let s := part BindingRecord.free
    let full := { s with records := Vector.replicate 48 (inState .retired none) }
    let young := s.setTagEntry 30 (.free 99)
    ((command bytes s).inHand 0x05#8 ∧ (command bytes s).op 1 = 7 ∧ (command bytes s).op 2 = 15 ∧
      (command bytes s).op 3 = 3 ∧ (command bytes s).op 4 = flagOp true ∧ (command bytes s).op 5 = 31 ∧
      (command [5#8, 7#8, 15#8, 3#8, 1#8, 0#8] s).op 5 = 0) ∧
    (((part live).record 47).key = ⟨7, 15⟩ ∧ ((part live).record 47).state = .live) ∧
    ((∀ b, (full.record b).state ≠ .free) ∧ ∀ b, (full.record b).state = .retired) ∧
    ((s.record 0).state = .free ∧ (∀ b, (s.record b).state = .free)) ∧
    (∀ age, (part live).tagEntry 30 ≠ .free age) ∧
    (young.tagEntry 30 = .free 99 ∧ young.tagReady 30 = false) ∧ s.tagReady 30 = true := by
  refine ⟨by unfold State.inHand; decide +kernel, by decide +kernel, by decide +kernel, by decide +kernel, ?_,
    by decide +kernel, by decide +kernel⟩
  intro age h
  have : (part live).tagEntry 30 = .held 47 := by decide +kernel
  rw [this] at h
  cases h

theorem witness_ModifyAndRetire :
    (∀ st : RecordState, ((part (inState st none)).record 47).state = st) ∧
    ((command [6#8, 47#8, 3#8, 1#8] (part live)).inHand 0x06#8 ∧ (command [6#8, 47#8, 3#8, 1#8] (part live)).op 1 = 47 ∧
      (command [6#8, 47#8, 3#8, 1#8] (part live)).op 2 = 3 ∧
      (command [6#8, 47#8, 3#8, 1#8] (part live)).op 3 = flagOp true) ∧
    (command [7#8, 47#8] (part live)).inHand 0x07#8 := by
  refine ⟨fun st => by cases st <;> decide +kernel, by unfold State.inHand; decide +kernel⟩

theorem witness_SettingsCommands :
    let s := command [11#8, 3#8, 15#8, 15#8, 63#8, 0x0F#8, 0xFF#8, 5#8] (part live)
    let p : PolicyClass := ⟨15, 15, 63, 4095, .expedited, false, true⟩
    let timing := command [14#8, 1#8, 3#8, 0xFF#8, 8#8] (part live)
    let waiting := part (inState .tagWait none)
    let same := command [14#8, 255#8, 0#8, 100#8, 1#8]
      { waiting with tags := { waiting.tags with waitQueue := [47], holdOffDue := true } }
    let enables := command [15#8, 31#8, 63#8] (part live)
    let release := command [8#8, 31#8] ((part BindingRecord.free).setTagEntry 30 (.stranded 9#8))
    (s.inHand 0x0B#8 ∧ s.op 1 = 3 ∧ s.op 2 = p.admissionCount ∧ s.op 3 = p.faultThreshold ∧
      s.op 4 = p.retireThreshold ∧ s.op 5 * 256 + s.op 6 = p.leaseLength ∧
      s.op 7 = flagOp (p.priority == .expedited) + 2 * flagOp p.reshapeAllowed + 4 * flagOp p.autoClear) ∧
    (timing.inHand 0x0E#8 ∧ 1 ≤ timing.op 1 ∧ timing.op 2 * 256 + timing.op 3 = 1023 ∧ timing.op 4 = 8) ∧
    (same.inHand 0x0E#8 ∧ 1 ≤ same.op 1 ∧ same.op 2 * 256 + same.op 3 = same.tags.holdOff ∧ same.op 4 = 1 ∧
      same.tags.waitQueue = [47] ∧ same.HeadLaw) ∧
    (enables.inHand 0x0F#8 ∧ enables.op 1 = 31 ∧ enables.op 2 = 63) ∧
    (release.inHand 0x08#8 ∧ release.op 1 = 31 ∧ release.tagEntry 30 = .stranded 9#8) ∧
    (command [8#8, 31#8] (part live)).inHand 0x08#8 ∧ (part live).tagEntry 30 = .held 47 := by
  unfold State.inHand
  refine ⟨by decide +kernel, by decide +kernel, ⟨by decide +kernel, by decide +kernel, by decide +kernel,
    by decide +kernel, by decide +kernel, Or.inr ?_⟩, by decide +kernel, by decide +kernel, by decide +kernel⟩
  rintro x rest h
  cases h
  decide +kernel

theorem witness_AttentionCommands :
    let pending := command [9#8] { part live with attention.part := 0x20#6 }
    let quiet := command [9#8] (part live)
    let marked := part { live with reasons := 0x01#5 }
    let upward := command [9#8] { marked with attention.cursor := 47 }
    let wrapped := command [9#8]
      { (part live).putRecord 2 { live with reasons := 0x01#5 } with attention.cursor := 3 }
    let retired := command [10#8, 47#8, 16#8] (part { inState .retired none with reasons := 0x10#5 })
    (pending.inHand 0x09#8 ∧ pending.attention.part ≠ 0#6) ∧
    (quiet.inHand 0x09#8 ∧ quiet.attention.part = 0#6 ∧ ∀ b, ¬(quiet.record b).reasons ≠ 0#5) ∧
    ((upward.record 47).reasons ≠ 0#5 ∧ upward.attention.cursor ≤ 47 ∧
      ∀ x, upward.attention.cursor ≤ x → x < 47 → ¬(upward.record x).reasons ≠ 0#5) ∧
    ((wrapped.record 2).reasons ≠ 0#5 ∧ 2 < wrapped.attention.cursor ∧
      ∀ x, wrapped.attention.cursor ≤ x ∨ x < 2 → ¬(wrapped.record x).reasons ≠ 0#5) ∧
    ((command [10#8, 255#8, 63#8] marked).inHand 0x0A#8 ∧ (command [10#8, 255#8, 63#8] marked).op 1 = 255 ∧
      (command [10#8, 255#8, 63#8] marked).op 2 = 63) ∧
    (retired.inHand 0x0A#8 ∧ retired.op 1 = 47 ∧ retired.op 2 = 16 ∧ (retired.record 47).state = .retired) ∧
    ((command [10#8, 47#8, 31#8] marked).op 2 = 31 ∧ (marked.record 47).state ≠ .retired ∧
      (command [10#8, 47#8, 15#8] retired).op 2 < 16) := by
  unfold State.inHand
  decide +kernel

theorem witness_LinkCommands :
    let on := command [12#8, 7#8, 1#8, 3#8]
    let off := command [12#8, 7#8, 0#8, 3#8] (withFrame frame (part live))
    let disabled := (part live).putFeeder 7 FeederLink.initial
    let busy := withFrame { frame with cellsReceived := 97 } (part live)
    ((on disabled).inHand 0x0C#8 ∧ (on disabled).op 1 = 7 ∧ (on disabled).op 3 = 3 ∧ (on disabled).op 2 = 1 ∧
      ((on disabled).feeder 7).state = .disabled) ∧
    ((on (part live)).feeder 7).state ≠ .disabled ∧ (off.inHand 0x0C#8 ∧ off.op 2 = 0) ∧
    ((command [13#8, 7#8, 1#8] busy).inHand 0x0D#8 ∧ (command [13#8, 7#8, 1#8] busy).op 2 = flagOp true ∧
      (busy.feeder 7).inRange ∧ (busy.feeder 7).frame.map (·.cellsReceived) = some 97) := by
  unfold State.inHand FeederLink.inRange
  decide +kernel

theorem witness_TrunkCommands :
    (∀ x : Session, (inSession x (part live)).notice.session = x) ∧
    (command [16#8] (inSession .closed (part live))).inHand 0x10#8 ∧ (command [17#8] (part live)).inHand 0x11#8 := by
  refine ⟨fun x => rfl, ⟨rfl, rfl, by decide +kernel⟩, rfl, rfl, by decide +kernel⟩

/-! ### A part at work that obeys every law, with a command waiting -/

/-- An UP session in which record 0 is LIVE with one DATA frame going out and one waiting, record 1 is RETIRING with its UNBIND
outstanding, record 2 waits for a tag, record 3 is RETIRED and record 4 is ANNOUNCING with its BIND owed, while a frame is open
on F7 and the next command is a DISABLE of F7. A hold-off expiry stands to be taken for record 2. -/
def atWork : State :=
  let live0 := { live with inFlight := 2, tag := some 0 }
  let s := { part BindingRecord.free with
    records := ((((State.reset.records.set 0 live0).set
      1 { inState .retiring (some 1) with key := ⟨0, 1⟩, lease := none, phase := .outstanding, cause := some .host }).set
      2 { inState .tagWait none with key := ⟨0, 2⟩, announced := false }).set
      3 { inState .retired none with key := ⟨0, 1⟩, lease := none, announced := false, reasons := 0x10#5 }).set
      4 { inState .announcing (some 2) with key := ⟨0, 4⟩, lease := none, announced := false, phase := .owed }
    tags := { TagManager.initial with
      table := (((TagManager.initial.table.set 0 (.held 0)).set 1 (.held 1)).set 2 (.held 4)).set 3 (.free 0)
      freeList := ((List.finRange 31).drop 3).erase 3 ++ [3], waitQueue := [2], holdOffDue := true }
    freeCells := 1532
    trunk := { queue := [{ descriptor with binding := some 0, tag := 0, inTransmission := true },
        { descriptor with binding := some 0, tag := 0 }], output := .busy .data [], credit := 100 }
    notice := { NoticeUnit.initial with
      session := .up, number := 1#8, owed := [4], window := [⟨0#8, .unbind, 1, 1, 1, some 3⟩], sequence := 1#8 } }
  { command [12#8, 7#8, 0#8, 0#8] (withFrame frame s) with pending := [.setLink] }

theorem witness_step_at_work : ∃ t, step atWork = .next t := ⟨_, rfl⟩
theorem witness_CellLawKept : atWork.CellLaw ∧ ∃ t, step atWork = .next t :=
  ⟨by unfold State.CellLaw; decide +kernel, witness_step_at_work⟩
theorem capacity_and_range_laws_at_work : atWork.CapacityLaw ∧ atWork.RangeLaw := by
  refine ⟨?_, ?_⟩
  · unfold State.CapacityLaw; decide +kernel
  · unfold State.RangeLaw BindingRecord.inRange FeederLink.inRange TrunkCounters.inRange; decide +kernel
theorem bound_law_at_work : atWork.BoundLaw := by
  refine ⟨fun b => ?_, by unfold PolicyClass.inRange; decide +kernel, fun l f h => ?_, ⟨fun x age h => ?_, by decide +kernel⟩,
    by decide +kernel, fun h hh => (by cases hh), by unfold SweepEngine.inRange; decide +kernel⟩
  · have h : ((atWork.record b).lease.all (· ≤ 4095) && (atWork.record b).geometry.all fun g => 1 ≤ g.cells && g.cells ≤ 96) &&
        ((atWork.record b).trial.all fun g => 1 ≤ g.cells && g.cells ≤ 96) = true := by revert b; decide +kernel
    simpa [BindingRecord.inBounds, Option.all_eq_true, and_assoc] using h
  · have h' : ∀ l, (atWork.feeder l).frame.all (·.cellsReceived ≤ 97) = true := by decide +kernel
    simpa [h] using h' l
  · have h' : ∀ x : Tag, (match atWork.tags.table[x] with | .free a => decide (a ≤ 1023) | _ => true) = true := by
      decide +kernel
    simpa [h] using h' x
theorem window_law_at_work : atWork.WindowLaw := by unfold State.WindowLaw; decide +kernel
theorem witness_LeaseAndReasonLawsKept : atWork.LeaseLaw ∧ atWork.ReasonLaw ∧ ∃ t, step atWork = .next t :=
  ⟨by unfold State.LeaseLaw; decide +kernel, by unfold State.ReasonLaw; decide +kernel, witness_step_at_work⟩
theorem witness_SessionLawKept : atWork.SessionLaw ∧ ∃ t, step atWork = .next t :=
  ⟨by unfold State.SessionLaw; decide +kernel, witness_step_at_work⟩
theorem witness_NoticeLawKept : atWork.NoticeLaw ∧ ∃ t, step atWork = .next t :=
  ⟨by unfold State.NoticeLaw; decide +kernel, witness_step_at_work⟩
theorem witness_KeyLawKept : atWork.NoticeLaw ∧ atWork.KeyLaw ∧ ∃ t, step atWork = .next t :=
  ⟨witness_NoticeLawKept.1, by unfold State.KeyLaw; decide +kernel, witness_step_at_work⟩
theorem head_law_at_work : atWork.HeadLaw := by
  refine Or.inr fun x rest h => ?_
  cases h
  decide +kernel
theorem witness_TagLawKept :
    atWork.NoticeLaw ∧ atWork.TagLaw ∧ atWork.HeadLaw ∧ atWork.HoldingLaw ∧ ∃ t, step atWork = .next t := by
  refine ⟨witness_NoticeLawKept.1, ?_, head_law_at_work, by unfold State.HoldingLaw; decide +kernel, witness_step_at_work⟩
  unfold State.TagLaw
  simp only [isFree_iff]
  decide +kernel
theorem witness_CapacityAndRangeLawsKept : (atWork.CapacityLaw ∧ atWork.RangeLaw) ∧ atWork.BoundLaw ∧
    (atWork.NoticeLaw ∧ atWork.WindowLaw ∧ atWork.FlightLaw) ∧ ∃ t, step atWork = .next t :=
  ⟨capacity_and_range_laws_at_work, bound_law_at_work,
    ⟨witness_NoticeLawKept.1, window_law_at_work, by unfold State.FlightLaw; decide +kernel⟩, witness_step_at_work⟩
theorem witness_FlightLawKept : atWork.NoticeLaw ∧ atWork.FlightLaw ∧ ∃ t, step atWork = .next t :=
  ⟨witness_NoticeLawKept.1, by unfold State.FlightLaw; decide +kernel, witness_step_at_work⟩
theorem witness_QuietKept : atWork.NoticeLaw ∧ atWork.Quiet ∧ ∃ t, step atWork = .next t :=
  ⟨witness_NoticeLawKept.1, by unfold State.Quiet; decide +kernel, witness_step_at_work⟩

end Sys2Proof.Tests
end

namespace Sys2Proof.Machine

-- One theorem at a time: a proof that waits for another holds a thread of its own.
set_option Elab.async false

/-! ### What a record keeps by itself

The laws of `State.Lawful` that read one record at a time, as predicates of that record. -/

/-- The states in which a notice about the record waits or is on its way (Table 1-B). -/
def RecordState.notifies : RecordState → Bool
  | .announcing | .retiring => true
  | .free | .candidate | .tagWait | .live | .suspended | .silent | .retired => false

/-- The phases that stand neither on the owed list nor in the window (R154, R155). -/
def NoticePhase.unlisted : NoticePhase → Bool
  | .none | .drain | .awaitSession => true
  | .owed | .outstanding => false

/-- R15 for one record. -/
def BindingRecord.LeaseFits (r : BindingRecord) : Prop := r.lease.isSome = r.state.leaseRuns

/-- R169 for one record. -/
def BindingRecord.ReasonFits (r : BindingRecord) : Prop :=
  r.state = .retired → r.reasons &&& RecordReason.retired.mask ≠ 0#5

/-- Table 1-B for one record: a notice phase stands in ANNOUNCING and RETIRING only. -/
def BindingRecord.PhaseFits (r : BindingRecord) : Prop :=
  r.phase ≠ .none → r.state = .announcing ∨ r.state = .retiring

/-- R2 for the geometry of one record, and for the tag of a learnt CANDIDATE. -/
def BindingRecord.HoldingFits (r : BindingRecord) : Prop :=
  (r.state = .free ∨ r.state = .candidate → r.geometry = none) ∧
  (r.state = .tagWait ∨ r.state.holdsTag = true → r.geometry.isSome) ∧
  (r.state = .candidate → r.origin = .learnt → r.tag = none)

/-- R2 for the tag of one record. -/
def BindingRecord.TagFits (r : BindingRecord) : Prop :=
  (r.state.lacksTag = true → r.tag = none) ∧ (r.state.holdsTag = true → r.tag.isSome)

/-- R134 for one record: where its descriptors may wait. -/
def BindingRecord.FlightFits (r : BindingRecord) : Prop :=
  0 < r.inFlight → r.state = .live ∨ r.state = .suspended ∨ r.state = .silent ∨
    ((r.state = .announcing ∨ r.state = .retiring) ∧ r.phase = .drain)

/-- A change of a record that keeps what the ranges, R15 and R169 ask of it, with the classes' parameters `cs`. -/
structure BindingRecord.Keeps (cs : Vector PolicyClass 4) (r r' : BindingRecord) : Prop where
  range : r.inRange → r'.inRange := by exact id
  bounds : (∀ c : ClassNo, cs[c].inRange) → r.inBounds → r'.inBounds := by exact fun _ h => h
  lease : r.LeaseFits → r'.LeaseFits := by exact id
  reason : r.ReasonFits → r'.ReasonFits := by exact id

/-- A change of a record that moves it onto no list and off none, takes and gives up no tag and no descriptor, and makes no
inactive record active. -/
structure BindingRecord.Stays (cs : Vector PolicyClass 4) (r r' : BindingRecord) : Prop extends r.Keeps cs r' where
  tag : r'.tag = r.tag := by rfl
  inFlight : r'.inFlight = r.inFlight := by rfl
  waits : r'.state = .tagWait ↔ r.state = .tagWait := by exact Iff.rfl
  key : r'.state.active = true → r.state.active = true ∧ r'.key = r.key := by exact fun h => ⟨h, rfl⟩
  owed : r.PhaseFits → (r'.phase = .owed ↔ r.phase = .owed) := by exact fun _ => Iff.rfl
  outstanding : r.PhaseFits → (r'.phase = .outstanding ↔ r.phase = .outstanding) := by exact fun _ => Iff.rfl
  phase : r.PhaseFits → r'.PhaseFits := by exact id
  holding : r.HoldingFits → r'.HoldingFits := by exact id
  tagged : r.TagFits → r'.TagFits := by exact id
  flight : r.PhaseFits → r.FlightFits → r'.FlightFits := by exact fun _ h => h

/-- A record that has ended: FREE or RETIRED, with nothing of the part's left in it (R6, R119). -/
structure BindingRecord.Ended (r : BindingRecord) : Prop where
  state : r.state = .free ∧ r.geometry = none ∨ r.state = .retired
  tag : r.tag = none
  phase : r.phase = .none
  inFlight : r.inFlight = 0

/-- A record that takes the free tag `x`: it enters ANNOUNCING, or is a CANDIDATE with a fixed tag (R59, R72, R73). -/
structure BindingRecord.Takes (cs : Vector PolicyClass 4) (x : Tag) (r r' : BindingRecord) : Prop extends r.Keeps cs r' where
  state : r'.state = .announcing ∨ r.state = .candidate ∧ r'.state = .candidate
  tag : r'.tag = some x
  phase : r'.phase = .none
  inFlight : r'.inFlight = r.inFlight
  key : r'.key = r.key

/-- The record of an answered window entry: its notice is outstanding no longer. -/
def BindingRecord.answered (r : BindingRecord) : BindingRecord :=
  if r.state.notifies then { r with phase := .none } else r

/-! ### What the rest of the part keeps -/

/-- The counters of links and trunk in their ranges (R43, R141, R164). -/
def State.CountsFit (s : State) : Prop := (∀ l, (s.feeder l).inRange) ∧ s.counters.inRange

/-- The settings and other values that stand in no record, in their ranges (R11, R32, R67, R69, R124, R145). -/
def State.SettingsFit (s : State) : Prop :=
  (∀ c : ClassNo, s.classes[c].inRange) ∧
    (∀ l f, (s.feeder l).frame = some f → f.cellsReceived ≤ Config.maxFrameCells + 1) ∧ s.tags.inRange ∧
    (1 ≤ s.notice.timeout ∧ s.notice.timeout ≤ 255) ∧ (∀ h, s.notice.hello = some h → h.inRange) ∧ s.sweep.inRange

/-- A change that keeps capacities and ranges outside the records. -/
structure State.PartKeeps (s t : State) : Prop where
  capacity : s.CapacityLaw → t.CapacityLaw := by exact id
  counts : s.CountsFit → t.CountsFit := by exact id
  settings : s.SettingsFit → t.SettingsFit := by exact id

/-- What of a window entry ties it to a record and a reply. -/
def WindowEntry.ties (e : WindowEntry) : Byte × BindingNo × Tag := (e.seq, e.binding, e.tag)

/-- A change that touches no record, no tag and no list of records; only the timers, counts and due numbers of the window,
and the marks of descriptors, may change. -/
structure State.SameLists (s t : State) : Prop where
  records : t.records = s.records := by rfl
  table : t.tags.table = s.tags.table := by rfl
  freeList : t.tags.freeList = s.tags.freeList := by rfl
  waitQueue : t.tags.waitQueue = s.tags.waitQueue := by rfl
  strandedCount : t.tags.strandedCount = s.tags.strandedCount := by rfl
  owed : t.notice.owed = s.notice.owed := by rfl
  window : t.notice.window.map WindowEntry.ties = s.notice.window.map WindowEntry.ties := by rfl
  queue : t.trunk.queue.map (·.binding) = s.trunk.queue.map (·.binding) := by rfl
  due : s.NoticeLaw → s.WindowLaw → t.WindowLaw := by exact fun _ h => h

/-! ### The moves

Every command is a sequence of moves, each of which keeps the laws; so a law holds after every step once it is shown for each
move. What a move asks of the state it leaves is what the model's own branch has tested, or (for the tag that a record gives
up) what the laws say there. -/

/-- One descriptor of a record fewer (R137 step 3, R138). -/
def State.lessen (s : State) (b : Option BindingNo) : State :=
  match b with
  | some b => s.updateRecord b fun r => { r with inFlight := r.inFlight - 1 }
  | none => s

/-- Of the laws of the state in which an event began, those that its moves rely on. An event that answers a window entry takes
the entry out before it ends the record, and knows of the record by the entry. -/
structure Premises where
  notice : Prop
  tags : Prop

/-- The premises of an event that begins in `s`. -/
def State.premises (s : State) : Premises := ⟨s.NoticeLaw, s.TagLaw⟩

/-- The laws that tie a tag to a record, before the event and at the move. -/
def State.Tied (P : Premises) (s : State) : Prop := (P.notice ∧ P.tags) ∧ s.NoticeLaw ∧ s.TagLaw

/-- What becomes of the tag of a record that ends; `Laws` stands for the laws of the state it ends in. -/
inductive State.GivesUp (s : State) (b : BindingNo) (Laws : Prop) : State → Prop
  | nothing (h : Laws → (s.record b).tag = none) : GivesUp s b Laws s
  | release (x : Tag) (h : Laws → (s.record b).tag = some x) : GivesUp s b Laws (s.releaseTag x)
  | strand (x : Tag) (q : Byte) (h : Laws → (s.record b).tag = some x) : GivesUp s b Laws (s.strandTag b x q)

/-- R149 steps 3 and 4: the releases of a HELLO-ACK and the completions of the records that held the tags. -/
def State.releasesAtHelloAck (s : State) : State :=
  (allBindings.filter s.completesAtHelloAck).foldl State.completeRetirement
    (((List.finRange 31).filter s.releasedAtHelloAck).foldl State.releaseTag s)

/-- One move of the part, in an event of the premises `P`. -/
inductive State.Move (P : Premises) : State → State → Prop
  /-- Nothing of the records and their lists changes. -/
  | part {s t : State} (lists : s.SameLists t) (keeps : s.PartKeeps t) : Move P s t
  /-- A record changes and stays on its lists. -/
  | stay {s : State} (b : BindingNo) (r : BindingRecord) (h : (s.record b).Stays s.classes r) : Move P s (s.putRecord b r)
  /-- R154: a notice becomes owed. -/
  | owe {s : State} (b : BindingNo) (state : (s.record b).state.notifies = true)
      (phase : (s.record b).phase.unlisted = true)
      (flight : (s.record b).FlightFits → (s.record b).inFlight = 0) : Move P s (s.oweNotice b)
  /-- R113: a record leaves the owed list. -/
  | leaveOwed {s : State} (b : BindingNo) (phase : (s.record b).phase = .owed) :
      Move P s ((s.leaveOwed b).putRecord b { s.record b with phase := .none })
  /-- R155, R156: the head of the owed list gets a window entry. -/
  | openEntry {s : State} (b : BindingNo) (x : Tag) (kind : NoticeKind) (rest : List BindingNo)
      (owed : s.notice.owed = b :: rest) (room : s.notice.window.length < Config.windowCapacity)
      (tag : (s.record b).tag = some x) :
      Move P s ({ s with notice := { s.notice with
        owed := rest, window := s.notice.window ++ [WindowEntry.mk s.nextSeq kind b x 1 none] } }.putRecord b
          { s.record b with phase := .outstanding })
  /-- R157, R159, R160: a window entry is answered or exhausted. -/
  | closeEntry {s : State} (e : WindowEntry) (entry : e ∈ s.notice.window) :
      Move P s ((s.removeEntry e.seq).putRecord e.binding (s.record e.binding).answered)
  /-- R56: entry to TAG_WAIT. -/
  | wait {s : State} (b : BindingNo) (state : (s.record b).state = .candidate) (tag : (s.record b).tag = none)
      (trial : (s.record b).trial.isSome) :
      Move P s ({ s with tags := { s.tags with waitQueue := s.tags.waitQueue ++ [b] } }.putRecord b { s.record b with
        geometry := (s.record b).trial, trial := none, state := .tagWait, lease := some (s.classOf b).leaseLength })
  /-- R59, R72, R73: a record takes a FREE tag; one that waited leaves the wait queue. -/
  | take {s : State} (b : BindingNo) (x : Tag) (w : List BindingNo) (r : BindingRecord)
      (entry : ∃ age, s.tagEntry x = .free age)
      (wait : w = s.tags.waitQueue ∧ (s.record b).state = .candidate ∨ b ∈ s.tags.waitQueue ∧ w = s.tags.waitQueue.erase b)
      (h : (s.record b).Takes s.classes x r)
      (untagged : s.NoticeLaw → (s.record b).state = .candidate → (s.record b).tag = none)
      (holding : s.NoticeLaw → (s.record b).HoldingFits → r.HoldingFits) :
      Move P s ({ s with tags := { s.tags with
        table := s.tags.table.set x (.held b), freeList := s.tags.freeList.erase x, waitQueue := w } }.putRecord b r)
  /-- R48, R58: a FREE record becomes a CANDIDATE for a key that no active record holds. -/
  | create {s : State} (b : BindingNo) (r : BindingRecord) (free : (s.record b).state = .free)
      (key : ∀ c, (s.record c).state.active = true → (s.record c).key ≠ r.key)
      (state : r.state = .candidate) (geometry : r.geometry = none) (tag : r.tag = none) (phase : r.phase = .none)
      (inFlight : r.inFlight = 0) (keeps : (s.record b).Keeps s.classes r) : Move P s (s.putRecord b r)
  /-- R6, R61, R63, R119, R120: a record ends, with `u` the state after it has left the wait queue and given up its tag. -/
  | finish {s s' u : State} (b : BindingNo) (r : BindingRecord)
      (wait : s' = s.leaveWaitQueue b ∨ s' = s ∧ (P.notice → (s.record b).state ≠ .tagWait))
      (phase : P.notice → (s.record b).PhaseFits → (s.record b).phase.unlisted = true)
      (flight : P.notice → (s.record b).PhaseFits → (s.record b).FlightFits → (s.record b).inFlight = 0)
      (tag : s'.GivesUp b (s.Tied P) u)
      (ended : r.Ended) (keeps : (s.record b).Keeps s.classes r) : Move P s (u.putRecord b r)
  /-- R88: a descriptor joins the egress queue. -/
  | append {s : State} (b : BindingNo) (d : Descriptor) (binding : d.binding = some b) (state : (s.record b).state = .live)
      (room : s.trunk.queue.length < Config.queueCapacity) :
      Move P s ({ s with trunk := { s.trunk with queue := s.trunk.queue ++ [d] } }.putRecord b
        { s.record b with inFlight := (s.record b).inFlight + 1 })
  /-- R137, R138: the descriptor in transmission leaves the egress queue. -/
  | dequeue {s : State} (d : Descriptor) (sending : s.sending = some d) : Move P s (s.removeSending.lessen d.binding)
  /-- R81, R82: a STRANDED tag is released. -/
  | releaseStranded {s : State} (x : Tag) (q : Byte) (entry : s.tagEntry x = .stranded q) : Move P s (s.releaseTag x)
  /-- R152: session loss. -/
  | lose {s : State} (target : Session) : Move P s (s.sessionLoss target)
  /-- R149: the releases of a HELLO-ACK. -/
  | helloReleases {s : State} : Move P s s.releasesAtHelloAck
  /-- R15, R68, R148, R157: a tick. -/
  | tick {s : State} : Move P s s.advance
  /-- R193: RESTART. -/
  | restart {s : State} : Move P s s.restarted
  /-- R194: power-on reset. -/
  | reset {s : State} : Move P s { State.reset with pending := s.pending }

/-- The states that a sequence of moves leads to. -/
def State.Reaches (P : Premises) : State → State → Prop := Relation.ReflTransGen (State.Move P)

end Sys2Proof.Machine

namespace Sys2Proof.Machine

set_option Elab.async false

/-! ### Effects that several laws read -/

theorem State.record_putRecord (s : State) (b c : BindingNo) (r : BindingRecord) :
    (s.putRecord b r).record c = if c = b then r else s.record c := by
  split
  next h => rw [h]; exact s.record_putRecord_self b r
  next h => exact s.record_putRecord_ne r h

/-- The record of a state whose records stand in another one. -/
theorem State.record_congr {s t : State} (h : t.records = s.records) (b : BindingNo) : t.record b = s.record b := by
  simp only [record, h]

theorem State.tagEntry_congr {s t : State} (h : t.tags.table = s.tags.table) (x : Tag) : t.tagEntry x = s.tagEntry x := by
  simp only [tagEntry, h]

theorem mem_allBindings (b : BindingNo) : b ∈ allBindings := List.mem_finRange b

/-- A change that takes tags from records and moves tags, and changes nothing else but the pending part-level reasons. -/
structure State.DropsTags (s u : State) : Prop where
  frame : ∃ rs tb fl n p, u = { s with
    records := rs, tags := { s.tags with table := tb, freeList := fl, strandedCount := n }, attention.part := p }
  records : ∀ c, u.record c = s.record c ∨ u.record c = { s.record c with tag := none }
  ages : ∀ x age, u.tagEntry x = .free age → s.tagEntry x = .free age ∨ age = 0

theorem State.DropsTags.refl (s : State) : s.DropsTags s :=
  ⟨⟨_, _, _, _, _, rfl⟩, fun _ => .inl rfl, fun _ _ h => .inl h⟩

theorem State.DropsTags.trans {s t u : State} (h : s.DropsTags t) (h' : t.DropsTags u) : s.DropsTags u where
  frame := by
    obtain ⟨_, _, _, _, _, rfl⟩ := h.frame
    obtain ⟨_, _, _, _, _, rfl⟩ := h'.frame
    exact ⟨_, _, _, _, _, rfl⟩
  records c := by
    rcases h.records c with e | e <;> rcases h'.records c with e' | e' <;> rw [e', e] <;> simp
  ages x age hx := by
    rcases h'.ages x age hx with hx | hx
    · exact h.ages x age hx
    · exact .inr hx

/-- R76: a release moves one tag. -/
theorem State.dropsTags_releaseTag (s : State) (x : Tag) : s.DropsTags (s.releaseTag x) := by
  have ages (u : State) (h : u.tags.table = s.tags.table.set x (.free 0)) (y : Tag) (age : Nat)
      (hy : u.tagEntry y = .free age) : s.tagEntry y = .free age ∨ age = 0 := by
    rw [tagEntry, h] at hy
    by_cases e : y = x
    · subst e; simp at hy; exact .inr hy.symm
    · rw [← s.tagEntry_setTagEntry_ne (.free 0) e]; exact .inl hy
  cases hx : s.tagEntry x with
  | free age => rw [releaseTag_free hx]; exact .refl s
  | held b =>
    rw [releaseTag_held hx]
    refine ⟨⟨_, _, _, _, _, rfl⟩, fun c => ?_, ages _ rfl⟩
    rw [record_putRecord]
    split
    next h => rw [h]; exact .inr rfl
    next h => exact .inl rfl
  | stranded q =>
    rw [releaseTag_stranded hx]
    exact ⟨⟨_, _, _, _, _, rfl⟩, fun _ => .inl rfl, ages _ rfl⟩

/-- R79: a stranded tag leaves its record's tag field. -/
theorem State.strandTag_eq (s : State) (b : BindingNo) (x : Tag) (q : Byte) :
    s.strandTag b x q = { s with
      tags := { s.tags with table := s.tags.table.set x (.stranded q), strandedCount := s.tags.strandedCount + 1 }
      attention.part := s.partAfter 0x04#6 }.putRecord b { s.record b with tag := none } := by
  rw [strandTag, raisePart_eq]
  rfl

theorem State.dropsTags_strandTag (s : State) (b : BindingNo) (x : Tag) (q : Byte) : s.DropsTags (s.strandTag b x q) := by
  rw [strandTag_eq]
  refine ⟨⟨_, _, _, _, _, rfl⟩, fun c => ?_, fun y age hy => ?_⟩
  · rw [record_putRecord]
    split
    next h => rw [h]; exact .inr rfl
    next h => exact .inl rfl
  · by_cases e : y = x
    · subst e; simp [tagEntry] at hy
    · rw [← s.tagEntry_setTagEntry_ne (.stranded q) e]; exact .inl hy

theorem State.dropsTags_releaseTags (l : List Tag) (s : State) : s.DropsTags (l.foldl releaseTag s) := by
  induction l generalizing s with
  | nil => exact .refl s
  | cons x l ih => exact (s.dropsTags_releaseTag x).trans (ih _)

theorem State.GivesUp.dropsTags {s u : State} {b : BindingNo} {p : Prop} (h : s.GivesUp b p u) : s.DropsTags u := by
  cases h
  · exact .refl s
  · exact s.dropsTags_releaseTag _
  · exact s.dropsTags_strandTag b _ _

/-- The state a record ends in, before its own fields are written. -/
theorem State.finish_frame {s s' u : State} {b : BindingNo} {p q : Prop}
    (wait : s' = s.leaveWaitQueue b ∨ s' = s ∧ q) (tag : s'.GivesUp b p u) :
    (∃ rs tb fl w n x, u = { s with
        records := rs, attention.part := x
        tags := { s.tags with table := tb, freeList := fl, waitQueue := w, strandedCount := n } }) ∧
      (∀ c, u.record c = s.record c ∨ u.record c = { s.record c with tag := none }) ∧
      ∀ x age, u.tagEntry x = .free age → s.tagEntry x = .free age ∨ age = 0 := by
  obtain ⟨⟨_, _, _, _, _, hu⟩, hr, ha⟩ := tag.dropsTags
  rcases wait with rfl | ⟨rfl, _⟩
  · exact ⟨⟨_, _, _, _, _, _, hu⟩, hr, ha⟩
  · exact ⟨⟨_, _, _, _, _, _, hu⟩, hr, ha⟩

/-- R119: completions write records alone, each its own. -/
theorem State.completeRetirements_effect {l : List BindingNo} (hl : l.Nodup) (s : State) :
    (∀ b, (l.foldl completeRetirement s).record b = if b ∈ l then s.retiredOrFree (s.record b) else s.record b) ∧
      { l.foldl completeRetirement s with records := s.records } = s := by
  induction l generalizing s with
  | nil => exact ⟨fun _ => rfl, rfl⟩
  | cons a l ih =>
    obtain ⟨hal, hl⟩ := List.nodup_cons.mp hl
    obtain ⟨h1, h2⟩ := ih hl (s.completeRetirement a)
    rw [completeRetirement_eq] at h1 h2
    rw [List.foldl_cons, completeRetirement_eq]
    refine ⟨fun b => ?_, ?_⟩
    · rw [h1, record_putRecord]
      by_cases e : b = a
      · subst e; simp [hal]
      · simp only [List.mem_cons, e, false_or, if_false]
        split
        · exact retiredOrFree_congr rfl rfl _
        · rfl
    · exact congrArg (fun t : State => { t with records := s.records }) h2

/-- R149: what the releases of a HELLO-ACK leave of a record. -/
theorem State.releasesAtHelloAck_record (s : State) (b : BindingNo) :
    ∃ r, (r = s.record b ∨ r = { s.record b with tag := none }) ∧
      s.releasesAtHelloAck.record b = if s.completesAtHelloAck b then s.retiredOrFree r else r := by
  have d := s.dropsTags_releaseTags ((List.finRange 31).filter s.releasedAtHelloAck)
  obtain ⟨_, _, _, _, _, hu⟩ := d.frame
  refine ⟨_, d.records b, ?_⟩
  have nodup : (allBindings.filter s.completesAtHelloAck).Nodup := (List.nodup_finRange 48).filter _
  rw [releasesAtHelloAck, (completeRetirements_effect nodup _).1 b]
  simp only [List.mem_filter, mem_allBindings, true_and]
  congr 1
  simp only [retiredOrFree, hu]

/-- R149: the releases of a HELLO-ACK change records and tags alone. -/
theorem State.releasesAtHelloAck_frame (s : State) :
    ∃ rs tb fl n p, s.releasesAtHelloAck = { s with
      records := rs, tags := { s.tags with table := tb, freeList := fl, strandedCount := n }, attention.part := p } := by
  obtain ⟨_, tb, fl, n, p, hu⟩ := (s.dropsTags_releaseTags ((List.finRange 31).filter s.releasedAtHelloAck)).frame
  have nodup : (allBindings.filter s.completesAtHelloAck).Nodup := (List.nodup_finRange 48).filter _
  refine ⟨s.releasesAtHelloAck.records, tb, fl, n, p, ?_⟩
  have := congrArg (fun u : State => { u with records := s.releasesAtHelloAck.records })
    ((completeRetirements_effect nodup _).2.trans hu)
  exact this

theorem State.releasesAtHelloAck_tagEntry (s : State) (x : Tag) : s.releasesAtHelloAck.tagEntry x =
    (((List.finRange 31).filter s.releasedAtHelloAck).foldl releaseTag s).tagEntry x := by
  have nodup : (allBindings.filter s.completesAtHelloAck).Nodup := (List.nodup_finRange 48).filter _
  have h := (completeRetirements_effect nodup (((List.finRange 31).filter s.releasedAtHelloAck).foldl releaseTag s)).2
  have table := congrArg (fun u : State => u.tags.table) h
  exact tagEntry_congr table x

/-! ### Session loss -/

/-- The descriptors that a purge leaves, and those it removes. -/
theorem State.purge_frame (s : State) : ∃ rs, s.purge = { s with
    records := rs, trunk.queue := s.trunk.queue.filter (·.inTransmission)
    freeCells := s.freeCells + ((s.trunk.queue.filter fun d => !d.inTransmission).map fun d => d.cells.length).sum
    counters := { s.counters with framesPurged :=
      satSucc^[(s.trunk.queue.filter fun d => !d.inTransmission).length] s.counters.framesPurged } } :=
  ⟨s.purge.records, congrArg (fun u : State => { u with records := s.purge.records }) (dropDescriptors_effect _ _).2⟩

theorem State.purge_record (s : State) (b : BindingNo) : s.purge.record b =
    { s.record b with
      inFlight := (s.record b).inFlight - (s.trunk.queue.filter fun d => !d.inTransmission).countP (·.binding == some b)
      withheld := satSucc^[(s.trunk.queue.filter fun d => !d.inTransmission).countP (·.binding == some b)]
        (s.record b).withheld } :=
  (dropDescriptors_effect _ _).1 b

/-- R152: session loss on a record. -/
theorem State.sessionLoss_record (s : State) (target : Session) (b : BindingNo) :
    (s.sessionLoss target).record b = (s.purge.record b).atSessionLoss := by
  simp [sessionLoss, raisePart_eq, record]

/-- R152: session loss on the rest of the part. -/
theorem State.sessionLoss_frame (s : State) (target : Session) : ∃ rs n c p, s.sessionLoss target = { s with
    records := rs, freeCells := n, counters := c, attention.part := p
    trunk := { s.trunk with queue := s.trunk.queue.filter (·.inTransmission), credit := 0 }
    notice := { s.notice with window := [], retransmit := [], owed := [], session := target } } ∧
    c = { s.counters with framesPurged :=
      satSucc^[(s.trunk.queue.filter fun d => !d.inTransmission).length] s.counters.framesPurged } := by
  obtain ⟨rs, h⟩ := s.purge_frame
  simp only [sessionLoss, raisePart_eq, h]
  exact ⟨_, _, _, _, rfl, rfl⟩

variable {P : Premises}

/-! ### Changes of one record that keep its ranges, its lease and its reason -/

theorem BindingRecord.Keeps.refl (cs : Vector PolicyClass 4) (r : BindingRecord) : r.Keeps cs r := {}

theorem BindingRecord.Keeps.trans {cs : Vector PolicyClass 4} {r r' r'' : BindingRecord} (h : r.Keeps cs r')
    (h' : r'.Keeps cs r'') : r.Keeps cs r'' where
  range := h'.range ∘ h.range
  bounds hc := h'.bounds hc ∘ h.bounds hc
  lease := h'.lease ∘ h.lease
  reason := h'.reason ∘ h.reason

/-- The free values are in every range (R6, Table 1-C). -/
theorem BindingRecord.keeps_free (cs : Vector PolicyClass 4) (r : BindingRecord) : r.Keeps cs .free where
  range _ := by simp [inRange, free]
  bounds _ _ := by simp [inBounds, free]
  lease _ := rfl
  reason _ h := by cases h

theorem BindingRecord.keeps_untag (cs : Vector PolicyClass 4) {r r' : BindingRecord}
    (h : r' = r ∨ r' = { r with tag := none }) : r.Keeps cs r' := by
  rcases h with rfl | rfl <;> exact {}

/-- R119: a RETIRED record has its reason pending and no lease. -/
theorem State.keeps_retiredOrFree (cs : Vector PolicyClass 4) (s : State) (r : BindingRecord) :
    r.Keeps cs (s.retiredOrFree r) := by
  unfold retiredOrFree
  split
  · exact r.keeps_free cs
  · exact {
      range := fun ⟨_, _, h⟩ => ⟨Nat.zero_le _, Nat.zero_le _, h⟩
      bounds := fun _ ⟨_, h, _⟩ => ⟨by simp, h, by simp⟩
      lease := fun _ => rfl
      reason := fun _ _ => by
        have h : ∀ x : BitVec 5, (x ||| 0x10#5) &&& RecordReason.retired.mask ≠ 0#5 := by decide
        exact h r.reasons }

theorem satSucc_iterate_le (k : Nat) {n : Nat} (h : n ≤ counterMax) : satSucc^[k] n ≤ counterMax := by
  cases k with
  | zero => exact h
  | succ k => rw [Function.iterate_succ_apply']; exact satSucc_le _

/-- Table 8-B: session loss stops the lease of a record that was LIVE, and changes no other lease. -/
theorem BindingRecord.keeps_atSessionLoss (cs : Vector PolicyClass 4) (r : BindingRecord) : r.Keeps cs r.atSessionLoss := by
  unfold atSessionLoss
  cases h : r.state <;> simp only
  case live => exact {
    range := fun ⟨_, _, h⟩ => ⟨Nat.zero_le _, Nat.zero_le _, h⟩
    bounds := fun _ ⟨_, h, _⟩ => ⟨by simp, h, by simp⟩
    lease := fun _ => rfl
    reason := fun _ h => by cases h }
  all_goals exact { lease := by simp [LeaseFits, h], reason := by simp [ReasonFits, h] }

theorem BindingRecord.keeps_tick (cs : Vector PolicyClass 4) (r : BindingRecord) : r.Keeps cs r.tick where
  bounds _ := fun ⟨h, h'⟩ => ⟨fun n hn => by
    obtain ⟨m, hm, rfl⟩ := Option.map_eq_some_iff.mp hn
    exact (Nat.sub_le m 1).trans (h m hm), h'⟩
  lease h := by simpa [LeaseFits, tick, tickTimer] using h

theorem BindingRecord.keeps_answered (cs : Vector PolicyClass 4) (r : BindingRecord) : r.Keeps cs r.answered := by
  unfold answered; split <;> exact {}

/-- A write of one record keeps what that record keeps, and leaves the others alone. -/
theorem State.putRecord_keeps {s u : State} {cs : Vector PolicyClass 4} {b : BindingNo} {r : BindingRecord}
    (self : (s.record b).Keeps cs r) (others : ∀ c, (s.record c).Keeps cs (u.record c)) (c : BindingNo) :
    (s.record c).Keeps cs ((u.putRecord b r).record c) := by
  rw [record_putRecord]
  split
  next h => rw [h]; exact self
  next h => exact others c

/-- Every move keeps every record's ranges, its lease to the states of R15, and the RETIRED reason on it while it is RETIRED. -/
theorem State.Move.keeps_records {s t : State} (m : s.Move P t) (c : BindingNo) :
    (s.record c).Keeps s.classes (t.record c) := by
  have same (u : State) (h : u.records = s.records) (c : BindingNo) : (s.record c).Keeps s.classes (u.record c) := by
    rw [record_congr h]; exact .refl _ _
  cases m with
  | part lists => exact same _ lists.records c
  | stay b r h => exact putRecord_keeps h.toKeeps (same s rfl) c
  | owe b | leaveOwed b | openEntry b | append b => exact putRecord_keeps {} (same _ rfl) c
  | closeEntry e => exact putRecord_keeps (BindingRecord.keeps_answered ..) (same _ rfl) c
  | take b _ _ _ _ _ h => exact putRecord_keeps h.toKeeps (same _ rfl) c
  | create b _ _ _ _ _ _ _ _ keeps => exact putRecord_keeps keeps (same _ rfl) c
  | wait b =>
    refine putRecord_keeps ?_ (same _ rfl) c
    exact {
      bounds := fun hc ⟨_, _, h⟩ => ⟨fun n hn => by cases hn; exact (hc _).2.2.2.2, h, by simp⟩
      lease := fun _ => rfl
      reason := fun _ h => by cases h }
  | finish b r wait _ _ tag _ keeps =>
    exact putRecord_keeps keeps (fun c => BindingRecord.keeps_untag _ ((finish_frame wait tag).2.1 c)) c
  | dequeue d =>
    unfold lessen
    split
    · exact putRecord_keeps {} (same _ rfl) c
    · exact .refl _ _
  | releaseStranded x => exact BindingRecord.keeps_untag _ ((s.dropsTags_releaseTag x).records c)
  | lose target =>
    rw [sessionLoss_record, purge_record]
    refine BindingRecord.Keeps.trans ?_ (BindingRecord.keeps_atSessionLoss ..)
    exact { range := fun ⟨h1, h2, h3, h4, h5, h6⟩ => ⟨h1, h2, h3, h4, satSucc_iterate_le _ h5, h6⟩ }
  | helloReleases =>
    obtain ⟨r, hr, e⟩ := s.releasesAtHelloAck_record c
    rw [e]
    refine (BindingRecord.keeps_untag _ hr).trans ?_
    split
    · exact s.keeps_retiredOrFree _ _
    · exact .refl _ _
  | tick =>
    have e : s.advance.record c = (s.record c).tick := by simp [advance, record]
    rw [e]; exact BindingRecord.keeps_tick ..
  | restart | reset =>
    have e : (Vector.replicate 48 BindingRecord.free)[c] = .free := by simp
    exact (congrArg ((s.record c).Keeps s.classes) e).mpr (BindingRecord.keeps_free ..)

/-! ### What moves keep outside the records -/

/-- R67: ages that were in range or are 0 are in range. -/
theorem TagManager.inRange_of_ages {m m' : TagManager} (h : m.inRange)
    (ages : ∀ (x : Tag) age, m'.table[x] = .free age → m.table[x] = .free age ∨ age = 0)
    (holdOff : m'.holdOff = m.holdOff) (threshold : m'.strandedThreshold = m.strandedThreshold) : m'.inRange := by
  obtain ⟨h1, h2, h3⟩ := h
  refine ⟨fun x age hx => ?_, holdOff ▸ h2, threshold ▸ h3⟩
  rcases ages x age hx with hx | rfl
  · exact h1 x age hx
  · exact Nat.zero_le _

/-- A write of an entry that is not FREE adds no age. -/
theorem ages_set_of_not_free {table : Vector TagEntry 31} {x : Tag} {e : TagEntry} (he : ∀ age, e ≠ .free age) (y : Tag)
    (age : Nat) (h : (table.set x e)[y] = .free age) : table[y] = .free age ∨ age = 0 := by
  by_cases hy : x.val = y.val
  · simp [hy] at h; exact absurd h (he age)
  · exact .inl (by simpa [hy] using h)

theorem State.DropsTags.part {s u : State} (h : s.DropsTags u) : s.PartKeeps u := by
  have ages := h.ages
  obtain ⟨_, _, _, _, _, rfl⟩ := h.frame
  exact { settings := fun ⟨h1, h2, h3, h4⟩ => ⟨h1, h2, TagManager.inRange_of_ages h3 ages rfl rfl, h4⟩ }

/-- Every move keeps the capacities, and the counters and settings in their ranges. -/
theorem State.Move.part_keeps {s t : State} (m : s.Move P t) : s.PartKeeps t := by
  cases m with
  | part _ keeps => exact keeps
  | stay | owe | leaveOwed | wait | create => exact {}
  | openEntry b x kind rest owed room => exact {
      capacity := fun ⟨h1, h2, _⟩ => ⟨h1, h2, by simpa using room⟩ }
  | closeEntry e => exact {
      capacity := fun ⟨h1, h2, h3⟩ => ⟨h1, h2, (List.length_filter_le ..).trans h3⟩ }
  | take => exact {
      settings := fun ⟨h1, h2, h3, h4⟩ =>
        ⟨h1, h2, TagManager.inRange_of_ages h3 (ages_set_of_not_free (by simp)) rfl rfl, h4⟩ }
  | finish b r wait _ _ tag =>
    obtain ⟨⟨_, _, _, _, _, _, rfl⟩, _, ages⟩ := finish_frame wait tag
    exact { settings := fun ⟨h1, h2, h3, h4⟩ => ⟨h1, h2, TagManager.inRange_of_ages h3 ages rfl rfl, h4⟩ }
  | append b d _ _ room => exact {
      capacity := fun ⟨_, h2⟩ => ⟨by simpa using room, h2⟩ }
  | dequeue d =>
    have h : s.removeSending.trunk.queue.length ≤ s.trunk.queue.length := List.eraseP_sublist.length_le
    unfold lessen
    split <;> exact { capacity := fun ⟨h1, h2⟩ => ⟨h.trans h1, h2⟩ }
  | releaseStranded x => exact (s.dropsTags_releaseTag x).part
  | lose target =>
    obtain ⟨_, _, c, _, h, hc⟩ := s.sessionLoss_frame target
    rw [h]
    exact {
      capacity := fun ⟨h1, _⟩ => ⟨(List.length_filter_le ..).trans h1, Nat.zero_le _, Nat.zero_le _⟩
      counts := fun ⟨h1, h2, h3, h4⟩ => ⟨h1, by rw [hc]; exact ⟨h2, satSucc_iterate_le _ h3, h4⟩⟩ }
  | helloReleases =>
    have d := s.dropsTags_releaseTags ((List.finRange 31).filter s.releasedAtHelloAck)
    have e := s.releasesAtHelloAck_tagEntry
    obtain ⟨_, _, _, _, _, h⟩ := s.releasesAtHelloAck_frame
    rw [h] at e ⊢
    exact { settings := fun ⟨h1, h2, h3, h4⟩ =>
      ⟨h1, h2, TagManager.inRange_of_ages h3 (fun x age hx => d.ages x age ((e x).symm.trans hx)) rfl rfl, h4⟩ }
  | tick => exact {
      capacity := fun ⟨h1, h2, h3⟩ => ⟨h1, h2, (List.length_map _).trans_le h3⟩
      settings := fun ⟨h1, h2, ⟨h3, h3'⟩, h4, h5, h6⟩ => by
        refine ⟨h1, h2, ⟨fun x age hx => ?_, h3'⟩, h4, fun h hh => ?_, h6⟩
        · simp only [advance, Fin.getElem_fin, Vector.getElem_map] at hx
          cases he : s.tags.table[x.val] <;> simp [he, TagEntry.tick] at hx
          omega
        · obtain ⟨h', hh', rfl⟩ := Option.map_eq_some_iff.mp hh
          exact h5 h' hh' }
  | restart => exact {
      capacity := fun ⟨h1, _, _⟩ =>
        ⟨(List.length_map _).trans_le ((List.length_filter_le ..).trans h1), Nat.zero_le _, Nat.zero_le _⟩
      counts := fun _ => ⟨fun l => by simp [restarted, feeder, FeederLink.inRange, FeederLink.restarted, FeederLink.initial],
        by simp [restarted, TrunkCounters.inRange, TrunkCounters.zero]⟩
      settings := fun ⟨h1, _, h3, h4, _, _⟩ => ⟨h1,
        fun l f h => by simp [restarted, feeder, FeederLink.restarted, FeederLink.initial] at h,
        ⟨fun x age hx => by simp [restarted, TagManager.restarted, TagManager.initial] at hx; omega, h3.2⟩, h4,
        fun h hh => (by cases hh), by simp [restarted, SweepEngine.inRange, SweepEngine.initial]⟩ }
  | reset => exact {
      capacity := fun _ => by simp [CapacityLaw, State.reset, Transmitter.initial, NoticeUnit.initial]
      counts := fun _ => ⟨fun l => by simp [State.reset, feeder, FeederLink.inRange, FeederLink.initial],
        by simp [State.reset, TrunkCounters.inRange, TrunkCounters.zero]⟩
      settings := fun _ => ⟨fun c => by simp [State.reset, PolicyClass.inRange, PolicyClass.default],
        fun l f h => by simp [State.reset, feeder, FeederLink.initial] at h,
        ⟨fun x age hx => by simp [State.reset, TagManager.initial] at hx; omega,
          by simp [State.reset, TagManager.initial, Config.maxAge]⟩,
        by simp [State.reset, NoticeUnit.initial], fun h hh => (by cases hh),
        by simp [State.reset, SweepEngine.inRange, SweepEngine.initial]⟩ }

/-! ### The laws that moves keep one by one, without the notice law -/

theorem State.boundLaw_iff (s : State) : s.BoundLaw ↔ (∀ b, (s.record b).inBounds) ∧ s.SettingsFit := Iff.rfl

theorem State.rangeLaw_iff (s : State) : s.RangeLaw ↔ (∀ b, (s.record b).inRange) ∧ s.CountsFit := Iff.rfl

/-- A property that every move keeps holds of every state reached. -/
theorem State.Reaches.keeps {Q : State → Prop} (step : ∀ s t, s.Move P t → Q s → Q t) {s t : State} (h : s.Reaches P t)
    (hs : Q s) : Q t := by
  induction h with
  | refl => exact hs
  | tail _ m ih => exact step _ _ m ih

theorem State.Reaches.capacityLaw {s t : State} (h : s.Reaches P t) : s.CapacityLaw → t.CapacityLaw :=
  h.keeps fun _ _ m => m.part_keeps.capacity

theorem State.Reaches.rangeLaw {s t : State} (h : s.Reaches P t) : s.RangeLaw → t.RangeLaw :=
  h.keeps fun _ _ m ⟨hr, hc⟩ => ⟨fun b => (m.keeps_records b).range (hr b), m.part_keeps.counts hc⟩

theorem State.Reaches.boundLaw {s t : State} (h : s.Reaches P t) : s.BoundLaw → t.BoundLaw :=
  h.keeps fun _ _ m ⟨hr, hp⟩ => ⟨fun b => (m.keeps_records b).bounds hp.1 (hr b), m.part_keeps.settings hp⟩

theorem State.Reaches.leaseLaw {s t : State} (h : s.Reaches P t) : s.LeaseLaw → t.LeaseLaw :=
  h.keeps fun _ _ m hs b => (m.keeps_records b).lease (hs b)

theorem State.Reaches.reasonLaw {s t : State} (h : s.Reaches P t) : s.ReasonLaw → t.ReasonLaw :=
  h.keeps fun _ _ m hs b => (m.keeps_records b).reason (hs b)

/-! ### The lists of records

The owed list, the window and the wait queue each hold exactly the records of one phase or state, once. -/

/-- A list holds exactly the records of a kind, once each. -/
def Lists (P : BindingNo → Prop) (l : List BindingNo) : Prop := (∀ b, P b ↔ b ∈ l) ∧ l.Nodup

theorem State.noticeLaw_iff (s : State) : s.NoticeLaw ↔
    Lists (fun b => (s.record b).phase = .owed) s.notice.owed ∧
    Lists (fun b => (s.record b).phase = .outstanding) (s.notice.window.map (·.binding)) ∧
    Lists (fun b => (s.record b).state = .tagWait) s.tags.waitQueue ∧
    (s.notice.window.map (·.seq)).Nodup ∧ s.notice.window.length ≤ Config.windowCapacity ∧
    ∀ b, (s.record b).PhaseFits := by
  unfold NoticeLaw Lists BindingRecord.PhaseFits
  tauto

/-- How one record's place on a list goes with whether it belongs there before and after. -/
inductive Relisted (b : BindingNo) (was now : Prop) (l : List BindingNo) : List BindingNo → Prop
  | keeps (h : now ↔ was) : Relisted b was now l l
  | joins (h : ¬was) (h' : now) : Relisted b was now l (l ++ [b])
  | leaves (h : ¬now) : Relisted b was now l (l.erase b)

theorem Lists.relist {P P' : BindingNo → Prop} {b : BindingNo} {l l' : List BindingNo} (h : Lists P l)
    (others : ∀ c, c ≠ b → (P' c ↔ P c)) (hb : Relisted b (P b) (P' b) l l') : Lists P' l' := by
  obtain ⟨mem, nodup⟩ := h
  cases hb with
  | keeps hb =>
    refine ⟨fun c => ?_, nodup⟩
    by_cases e : c = b
    · rw [e, hb, mem]
    · rw [others c e, mem]
  | joins hb hb' =>
    refine ⟨fun c => ?_, ?_⟩
    · by_cases e : c = b
      · simp [e, hb']
      · simp [others c e, mem, e]
    · simpa [List.nodup_append, nodup] using fun c hc (e : c = b) => hb (e ▸ (mem c).mpr hc)
  | leaves hb =>
    refine ⟨fun c => ?_, nodup.erase b⟩
    rw [nodup.mem_erase_iff]
    by_cases e : c = b
    · simp [e, hb]
    · simp [others c e, mem, e]

/-- Only record `b` changes, but for tags that other records may lose. -/
def State.AltersOnly (s t : State) (b : BindingNo) : Prop :=
  ∀ c, c ≠ b → t.record c = s.record c ∨ t.record c = { s.record c with tag := none }

theorem State.altersOnly_putRecord {s u : State} (h : u.records = s.records) (b : BindingNo) (r : BindingRecord) :
    s.AltersOnly (u.putRecord b r) b := fun c hc => .inl (by rw [record_putRecord_ne _ _ hc, record_congr h])

theorem State.AltersOnly.phase {s t : State} {b c : BindingNo} (h : s.AltersOnly t b) (hc : c ≠ b) :
    (t.record c).phase = (s.record c).phase := by rcases h c hc with h | h <;> rw [h]

theorem State.AltersOnly.state {s t : State} {b c : BindingNo} (h : s.AltersOnly t b) (hc : c ≠ b) :
    (t.record c).state = (s.record c).state := by rcases h c hc with h | h <;> rw [h]

theorem State.AltersOnly.key {s t : State} {b c : BindingNo} (h : s.AltersOnly t b) (hc : c ≠ b) :
    (t.record c).key = (s.record c).key := by rcases h c hc with h | h <;> rw [h]

theorem State.AltersOnly.inFlight {s t : State} {b c : BindingNo} (h : s.AltersOnly t b) (hc : c ≠ b) :
    (t.record c).inFlight = (s.record c).inFlight := by rcases h c hc with h | h <;> rw [h]

/-- R71, R154 to R156: the notice law after a change of one record and of its places on the lists. -/
theorem State.NoticeLaw.alter {s t : State} {b : BindingNo} (h : s.NoticeLaw) (others : s.AltersOnly t b)
    (phase : (t.record b).PhaseFits)
    (owed : Relisted b ((s.record b).phase = .owed) ((t.record b).phase = .owed) s.notice.owed t.notice.owed)
    (window : Relisted b ((s.record b).phase = .outstanding) ((t.record b).phase = .outstanding)
      (s.notice.window.map (·.binding)) (t.notice.window.map (·.binding)))
    (wait : Relisted b ((s.record b).state = .tagWait) ((t.record b).state = .tagWait) s.tags.waitQueue t.tags.waitQueue)
    (seqs : (t.notice.window.map (·.seq)).Nodup) (capacity : t.notice.window.length ≤ Config.windowCapacity) :
    t.NoticeLaw := by
  obtain ⟨ho, hw, hq, _, _, hp⟩ := s.noticeLaw_iff.mp h
  refine t.noticeLaw_iff.mpr ⟨ho.relist (fun c hc => by rw [others.phase hc]) owed,
    hw.relist (fun c hc => by rw [others.phase hc]) window, hq.relist (fun c hc => by rw [others.state hc]) wait,
    seqs, capacity, fun c => ?_⟩
  by_cases e : c = b
  · exact e ▸ phase
  · have := hp c
    unfold BindingRecord.PhaseFits at this ⊢
    rwa [others.phase e, others.state e]

/-! ### Window entries -/

/-- R156: a window of at most 255 entries leaves a sequence number free, and the search for one finds it. -/
theorem freshSeq_run (w : List WindowEntry) (n : Nat) (c : Byte) (h : freshSeq w n c ∈ w.map (·.seq)) :
    ∀ k ≤ n, c + BitVec.ofNat 8 k ∈ w.map (·.seq) := by
  induction n generalizing c with
  | zero => intro k hk; obtain rfl : k = 0 := by omega
            simpa [freshSeq] using h
  | succ n ih =>
    rw [freshSeq] at h
    split at h
    next hc =>
      intro k hk
      rcases k with _ | k
      · simpa [List.any_eq_true] using hc
      · have := ih _ h k (by omega)
        have e : c + BitVec.ofNat 8 (k + 1) = c + 1 + BitVec.ofNat 8 k := by
          rw [BitVec.ofNat_add, BitVec.add_assoc, BitVec.add_comm (BitVec.ofNat 8 k)]; rfl
        rwa [e]
    next hc => exact absurd (by simpa [List.any_eq_true] using h) hc

/-- R156: the sequence number that a new window entry takes is not in the window. -/
theorem State.nextSeq_fresh {s : State} (h : s.notice.window.length < 256) :
    s.nextSeq ∉ s.notice.window.map (·.seq) := by
  intro hq
  have run := freshSeq_run _ _ _ hq
  have inj : Set.InjOn (fun k => s.notice.sequence + BitVec.ofNat 8 k)
      (Finset.range (s.notice.window.length + 1)) := by
    intro i hi j hj e
    simp only [Finset.coe_range, Set.mem_Iio] at hi hj
    have := congrArg BitVec.toNat ((BitVec.add_right_inj _).mp e)
    simp only [BitVec.toNat_ofNat] at this
    omega
  have card := Finset.card_le_card_of_injOn (t := (s.notice.window.map (·.seq)).toFinset) _
    (fun k hk => List.mem_toFinset.mpr (run k (by simpa [Nat.lt_succ_iff] using hk))) inj
  have := (List.toFinset_card_le (s.notice.window.map (·.seq)))
  simp only [Finset.card_range, List.length_map] at card this
  omega

/-- The window without the entry of a sequence number holds the other records' entries. -/
theorem window_remove {w : List WindowEntry} {e : WindowEntry} (he : e ∈ w) (seqs : (w.map (·.seq)).Nodup)
    (bindings : (w.map (·.binding)).Nodup) :
    (w.filter fun x => x.seq != e.seq).map (·.binding) = (w.map (·.binding)).erase e.binding := by
  induction w with
  | nil => cases he
  | cons a w ih =>
    obtain ⟨ha, seqs⟩ := List.nodup_cons.mp seqs
    obtain ⟨hb, bindings⟩ := List.nodup_cons.mp bindings
    rcases List.mem_cons.mp he with rfl | he
    · have : (w.filter fun x => x.seq != e.seq) = w := List.filter_eq_self.mpr fun x hx => by
        simpa using fun (h : x.seq = e.seq) => ha (List.mem_map.mpr ⟨x, hx, h⟩)
      simp [this]
    · have h1 : a.seq ≠ e.seq := fun h => ha (List.mem_map.mpr ⟨e, he, h.symm⟩)
      have h2 : a.binding ≠ e.binding := fun h => hb (List.mem_map.mpr ⟨e, he, h.symm⟩)
      simp [h1, h2, ih he seqs bindings]

/-! ### The notice law under moves -/

theorem Lists.congr {P P' : BindingNo → Prop} {l : List BindingNo} (h : Lists P l) (e : ∀ c, P' c ↔ P c) : Lists P' l :=
  ⟨fun c => (e c).trans (h.1 c), h.2⟩

theorem Lists.nil {P : BindingNo → Prop} (h : ∀ c, ¬P c) : Lists P [] := ⟨fun c => by simp [h c], List.nodup_nil⟩

/-- What a window entry ties says of its fields. -/
theorem window_maps {w w' : List WindowEntry} (h : w'.map WindowEntry.ties = w.map WindowEntry.ties) :
    w'.map (·.seq) = w.map (·.seq) ∧ w'.map (·.binding) = w.map (·.binding) ∧ w'.length = w.length := by
  have seq := congrArg (List.map fun x => x.1) h
  have binding := congrArg (List.map fun x => x.2.1) h
  rw [List.map_map, List.map_map] at seq binding
  exact ⟨seq, binding, by simpa using congrArg List.length h⟩

/-- R119: a completed record has ended. -/
theorem State.ended_retiredOrFree (s : State) (r : BindingRecord) : (s.retiredOrFree r).Ended := by
  unfold retiredOrFree
  split
  · exact ⟨.inl ⟨rfl, rfl⟩, rfl, rfl, rfl⟩
  · exact ⟨.inr rfl, rfl, rfl, rfl⟩

theorem BindingRecord.Ended.phaseFits {r : BindingRecord} (h : r.Ended) : r.PhaseFits := fun h' => absurd h.phase h'

theorem BindingRecord.Ended.not_active {r : BindingRecord} (h : r.Ended) : r.state.active = false := by
  rcases h.state with ⟨h, _⟩ | h <;> rw [h] <;> rfl

theorem BindingRecord.Ended.not_tagWait {r : BindingRecord} (h : r.Ended) : r.state ≠ .tagWait := by
  rcases h.state with ⟨h, _⟩ | h <;> rw [h] <;> simp

theorem RecordState.notifies_iff (x : RecordState) : x.notifies = true ↔ x = .announcing ∨ x = .retiring := by
  cases x <;> simp [notifies]

theorem NoticePhase.unlisted_iff (p : NoticePhase) : p.unlisted = true ↔ p ≠ .owed ∧ p ≠ .outstanding := by
  cases p <;> simp [unlisted]

/-- A record outside ANNOUNCING and RETIRING has no notice phase. -/
theorem BindingRecord.PhaseFits.phase_eq {r : BindingRecord} (h : r.PhaseFits) (hs : r.state.notifies = false) :
    r.phase = .none := by
  by_contra hp
  rcases h hp with e | e <;> simp [e, RecordState.notifies] at hs

/-- Table 8-B: after session loss a notice waits for the drain or for the session. -/
theorem BindingRecord.unlisted_lossPhase (r : BindingRecord) : r.lossPhase.unlisted = true := by
  unfold lossPhase
  split
  · split <;> rfl
  · rfl

/-- Table 8-B: after session loss a record stands on no list of notices. -/
theorem BindingRecord.PhaseFits.atSessionLoss {r : BindingRecord} (h : r.PhaseFits) :
    r.atSessionLoss.PhaseFits ∧ r.atSessionLoss.phase.unlisted = true ∧
      (r.atSessionLoss.state = .tagWait ↔ r.state = .tagWait) := by
  cases hs : r.state
  case live => simp only [BindingRecord.atSessionLoss, hs, PhaseFits]; split <;> simp [NoticePhase.unlisted]
  case announcing | retiring =>
    have := r.unlisted_lossPhase
    simp_all [BindingRecord.atSessionLoss, PhaseFits, BindingRecord.lossPhase]
  all_goals
    have hp := h.phase_eq (by rw [hs]; rfl)
    simp [BindingRecord.atSessionLoss, hs, hp, PhaseFits, NoticePhase.unlisted]

theorem State.purge_phase_state (s : State) (b : BindingNo) :
    (s.purge.record b).phase = (s.record b).phase ∧ (s.purge.record b).state = (s.record b).state := by
  rw [purge_record]; exact ⟨rfl, rfl⟩

theorem State.completesAtHelloAck_iff (s : State) (b : BindingNo) : s.completesAtHelloAck b = true ↔
    (s.record b).state = .retiring ∧ (s.record b).phase = .awaitSession ∧
      ∃ x, (s.record b).tag = some x ∧ s.tagEntry x = .held b := by
  unfold completesAtHelloAck BindingRecord.awaitsRelease
  cases (s.record b).tag <;> simp [and_assoc]

/-- R149: the phase and state that the releases of a HELLO-ACK leave. -/
theorem State.releasesAtHelloAck_cases (s : State) (b : BindingNo) :
    (s.completesAtHelloAck b = true ∧ (s.releasesAtHelloAck.record b).Ended) ∨
      (s.completesAtHelloAck b = false ∧ (s.releasesAtHelloAck.record b = s.record b ∨
        s.releasesAtHelloAck.record b = { s.record b with tag := none })) := by
  obtain ⟨r, hr, e⟩ := s.releasesAtHelloAck_record b
  cases h : s.completesAtHelloAck b <;> rw [e, h]
  · exact .inr ⟨rfl, hr⟩
  · exact .inl ⟨rfl, s.ended_retiredOrFree r⟩

theorem State.record_replicate_free {s : State} (h : s.records = Vector.replicate 48 .free) (b : BindingNo) :
    s.record b = .free := by simp [record, h]

theorem State.record_advance (s : State) (b : BindingNo) : s.advance.record b = (s.record b).tick := by
  simp [advance, record]

theorem State.advance_ties (s : State) :
    s.advance.notice.window.map WindowEntry.ties = s.notice.window.map WindowEntry.ties := by
  simp [advance, WindowEntry.ties, Function.comp_def]

/-- The notice law of a part with every record FREE and every list empty. -/
theorem State.noticeLaw_of_free {s : State} (records : s.records = Vector.replicate 48 .free) (owed : s.notice.owed = [])
    (window : s.notice.window = []) (wait : s.tags.waitQueue = []) : s.NoticeLaw := by
  have free := record_replicate_free records
  refine s.noticeLaw_iff.mpr ⟨?_, ?_, ?_, ?_, ?_, fun b => ?_⟩
  · rw [owed]; exact .nil fun c => by simp [free, BindingRecord.free]
  · rw [window]; exact .nil fun c => by simp [free, BindingRecord.free]
  · rw [wait]; exact .nil fun c => by simp [free, BindingRecord.free]
  · simp [window]
  · simp [window]
  · simp [free, BindingRecord.PhaseFits, BindingRecord.free]

/-- R154 to R156: a record gets its window entry. -/
theorem State.NoticeLaw.openEntry {s : State} (h : s.NoticeLaw) {b : BindingNo} {x : Tag} {kind : NoticeKind}
    {rest : List BindingNo} (owed : s.notice.owed = b :: rest) (room : s.notice.window.length < Config.windowCapacity) :
    ({ s with notice := { s.notice with
      owed := rest, window := s.notice.window ++ [WindowEntry.mk s.nextSeq kind b x 1 none] } }.putRecord b
        { s.record b with phase := .outstanding }).NoticeLaw := by
  obtain ⟨⟨ho, _⟩, _, _, hseq, _, hp⟩ := s.noticeLaw_iff.mp h
  have hb : (s.record b).phase = .owed := (ho b).mpr (by simp [owed])
  refine h.alter (b := b) (altersOnly_putRecord rfl _ _) ?_ ?_ ?_ ?_ ?_ (by simpa using room)
  · rw [record_putRecord_self]; exact fun _ => hp b (by simp [hb])
  · have e : rest = s.notice.owed.erase b := by simp [owed]
    rw [putRecord_notice, e]; exact .leaves (by simp)
  · rw [putRecord_notice, List.map_append]; exact .joins (by simp [hb]) (by simp)
  · exact .keeps (by simp)
  · have fresh := s.nextSeq_fresh (by simp only [Config.windowCapacity] at room; omega)
    simpa [List.nodup_append, hseq] using fun e he h => fresh (List.mem_map.mpr ⟨e, he, h⟩)

/-- R157, R159, R160: the entry of a record leaves the window. -/
theorem State.NoticeLaw.closeEntry {s : State} (h : s.NoticeLaw) {e : WindowEntry} (entry : e ∈ s.notice.window) :
    ((s.removeEntry e.seq).putRecord e.binding (s.record e.binding).answered).NoticeLaw := by
  obtain ⟨_, ⟨hw, hn⟩, _, hseq, hlen, hp⟩ := s.noticeLaw_iff.mp h
  have hb : (s.record e.binding).phase = .outstanding := (hw e.binding).mpr (List.mem_map.mpr ⟨e, entry, rfl⟩)
  have hs : (s.record e.binding).state.notifies = true := (RecordState.notifies_iff _).mpr (hp _ (by simp [hb]))
  have answered : (s.record e.binding).answered = { s.record e.binding with phase := .none } := by
    simp [BindingRecord.answered, hs]
  rw [answered]
  refine h.alter (b := e.binding) (altersOnly_putRecord rfl _ _) ?_ ?_ ?_ ?_ ?_ ?_
  · simp [BindingRecord.PhaseFits]
  · exact .keeps (by simp [hb])
  · rw [putRecord_notice, removeEntry, window_remove entry hseq hn]; exact .leaves (by simp)
  · exact .keeps (by simp)
  · exact hseq.sublist (List.filter_sublist.map _)
  · exact (List.length_filter_le ..).trans hlen

/-- Every move keeps the notice law. -/
theorem State.Move.noticeLaw {s t : State} (m : s.Move P t) (began : P.notice) (h : s.NoticeLaw) : t.NoticeLaw := by
  obtain ⟨ho, hw, hq, hseq, hlen, hp⟩ := s.noticeLaw_iff.mp h
  cases m with
  | part lists =>
    obtain ⟨e1, e2, e3⟩ := window_maps lists.window
    have same := record_congr lists.records
    refine t.noticeLaw_iff.mpr ?_
    simp only [same, lists.owed, lists.waitQueue, e1, e2, e3]
    exact s.noticeLaw_iff.mp h
  | stay b r hr =>
    refine h.alter (altersOnly_putRecord rfl b r) ?_ ?_ ?_ ?_ hseq hlen <;> rw [record_putRecord_self]
    · exact hr.phase (hp b)
    · exact .keeps (hr.owed (hp b))
    · exact .keeps (hr.outstanding (hp b))
    · exact .keeps hr.waits
  | owe b state phase =>
    obtain ⟨h1, h2⟩ := (NoticePhase.unlisted_iff _).mp phase
    refine h.alter (b := b) (altersOnly_putRecord rfl _ _) ?_ ?_ ?_ ?_ hseq hlen <;>
      rw [oweNotice_eq, record_putRecord_self]
    · exact fun _ => (RecordState.notifies_iff _).mp state
    · exact .joins h1 rfl
    · exact .keeps (by simp [h2])
    · exact .keeps Iff.rfl
  | leaveOwed b phase =>
    refine h.alter (b := b) (altersOnly_putRecord rfl _ _) ?_ ?_ ?_ ?_ hseq hlen <;> rw [record_putRecord_self]
    · exact fun h => absurd rfl h
    · exact .leaves (by simp)
    · exact .keeps (by simp [phase])
    · exact .keeps Iff.rfl
  | openEntry b x kind rest owed room => exact h.openEntry owed room
  | closeEntry e entry => exact h.closeEntry entry
  | wait b state =>
    have none := (hp b).phase_eq (by rw [state]; rfl)
    refine h.alter (b := b) (altersOnly_putRecord rfl _ _) ?_ ?_ ?_ ?_ hseq hlen <;> rw [record_putRecord_self]
    · exact fun h => absurd none h
    · exact .keeps Iff.rfl
    · exact .keeps Iff.rfl
    · exact .joins (by simp [state]) rfl
  | take b x w r entry wait hr =>
    have waits : (s.record b).state = .candidate ∨ (s.record b).state = .tagWait := by
      rcases wait with ⟨_, state⟩ | ⟨mem, _⟩
      · exact .inl state
      · exact .inr ((hq.1 b).mpr mem)
    have none := (hp b).phase_eq (by rcases waits with e | e <;> rw [e] <;> rfl)
    have notWait : r.state ≠ .tagWait := by rcases hr.state with e | ⟨_, e⟩ <;> simp [e]
    refine h.alter (altersOnly_putRecord rfl b r) ?_ ?_ ?_ ?_ hseq hlen <;> rw [record_putRecord_self]
    · exact fun h => absurd hr.phase h
    · exact .keeps (by simp [none, hr.phase])
    · exact .keeps (by simp [none, hr.phase])
    · rcases wait with ⟨rfl, state⟩ | ⟨_, rfl⟩
      · exact .keeps (by simp [notWait, state])
      · exact .leaves notWait
  | create b r free _ state _ _ phase =>
    have none := (hp b).phase_eq (by rw [free]; rfl)
    refine h.alter (altersOnly_putRecord rfl b r) ?_ ?_ ?_ ?_ hseq hlen <;> rw [record_putRecord_self]
    · exact fun h => absurd phase h
    · exact .keeps (by simp [none, phase])
    · exact .keeps (by simp [none, phase])
    · exact .keeps (by simp [state, free])
  | @finish s' u b r wait phase _ tag ended =>
    have unlisted := (NoticePhase.unlisted_iff _).mp (phase began (hp b))
    obtain ⟨⟨_, _, _, q, _, _, hu⟩, hr, _⟩ := finish_frame wait tag
    have others : s.AltersOnly _ b := fun c hc => by rw [record_putRecord_ne _ r hc]; exact hr c
    have hwait : u.tags.waitQueue = s'.tags.waitQueue := by
      obtain ⟨_, _, _, _, _, e⟩ := tag.dropsTags.frame
      rw [e]
    refine h.alter others ?_ ?_ ?_ ?_ ?_ ?_ <;> simp only [record_putRecord_self, putRecord_notice, putRecord_tags, hwait]
    · exact ended.phaseFits
    · rw [hu]; exact .keeps (by simp [unlisted, ended.phase])
    · rw [hu]; exact .keeps (by simp [unlisted, ended.phase])
    · rcases wait with rfl | ⟨rfl, state⟩
      · exact .leaves ended.not_tagWait
      · exact .keeps (by simp [state began, ended.not_tagWait])
    · rw [hu]; exact hseq
    · rw [hu]; exact hlen
  | append b =>
    refine h.alter (b := b) (altersOnly_putRecord rfl _ _) ?_ ?_ ?_ ?_ hseq hlen <;> rw [record_putRecord_self]
    · exact hp b
    all_goals exact .keeps Iff.rfl
  | dequeue d =>
    unfold lessen
    split
    next b _ =>
      refine h.alter (b := b) (altersOnly_putRecord (u := s.removeSending) rfl _ _) ?_ ?_ ?_ ?_ hseq hlen <;>
        rw [record_updateRecord_self]
      · exact hp b
      all_goals exact .keeps Iff.rfl
    · exact h
  | releaseStranded x =>
    have d := s.dropsTags_releaseTag x
    have e (c) : ((s.releaseTag x).record c).phase = (s.record c).phase ∧
        ((s.releaseTag x).record c).state = (s.record c).state := by rcases d.records c with e | e <;> simp [e]
    obtain ⟨_, _, _, _, _, hu⟩ := d.frame
    rw [hu] at e ⊢
    refine (noticeLaw_iff _).mpr ⟨ho.congr fun c => by rw [(e c).1], hw.congr fun c => by rw [(e c).1],
      hq.congr fun c => by rw [(e c).2], hseq, hlen, fun c hc => ?_⟩
    rw [(e c).1] at hc
    rw [(e c).2]; exact hp c hc
  | lose target =>
    have fits (c) : ((s.sessionLoss target).record c).PhaseFits ∧ ((s.sessionLoss target).record c).phase.unlisted = true ∧
        (((s.sessionLoss target).record c).state = .tagWait ↔ (s.record c).state = .tagWait) := by
      obtain ⟨e1, e2⟩ := s.purge_phase_state c
      have : (s.purge.record c).PhaseFits := by have := hp c; unfold BindingRecord.PhaseFits at *; rwa [e1, e2]
      rw [sessionLoss_record, ← e2]
      exact this.atSessionLoss
    obtain ⟨_, _, _, _, hu, _⟩ := s.sessionLoss_frame target
    have unlisted (c) := (NoticePhase.unlisted_iff _).mp (fits c).2.1
    refine (noticeLaw_iff _).mpr ⟨?_, ?_, ?_, ?_, ?_, fun c => (fits c).1⟩
    · rw [hu] at unlisted ⊢; exact .nil fun c => (unlisted c).1
    · rw [hu] at unlisted ⊢; exact .nil fun c => (unlisted c).2
    · have := hq.congr fun c => (fits c).2.2
      rw [hu] at this ⊢; exact this
    · rw [hu]; exact List.nodup_nil
    · rw [hu]; exact Nat.zero_le _
  | helloReleases =>
    have effect (c) : (((s.releasesAtHelloAck.record c).phase = .owed ↔ (s.record c).phase = .owed) ∧
        ((s.releasesAtHelloAck.record c).phase = .outstanding ↔ (s.record c).phase = .outstanding) ∧
        ((s.releasesAtHelloAck.record c).state = .tagWait ↔ (s.record c).state = .tagWait)) ∧
        (s.releasesAtHelloAck.record c).PhaseFits := by
      rcases s.releasesAtHelloAck_cases c with ⟨hc, ended⟩ | ⟨_, e⟩
      · obtain ⟨state, phase, _⟩ := (s.completesAtHelloAck_iff c).mp hc
        exact ⟨by simp [state, phase, ended.phase, ended.not_tagWait], ended.phaseFits⟩
      · have := hp c
        rcases e with e | e <;> rw [e] <;> exact ⟨⟨Iff.rfl, Iff.rfl, Iff.rfl⟩, this⟩
    obtain ⟨_, _, _, _, _, hu⟩ := s.releasesAtHelloAck_frame
    rw [hu] at effect ⊢
    exact (noticeLaw_iff _).mpr ⟨ho.congr fun c => (effect c).1.1, hw.congr fun c => (effect c).1.2.1,
      hq.congr fun c => (effect c).1.2.2, hseq, hlen, fun c => (effect c).2⟩
  | tick =>
    obtain ⟨e1, e2, e3⟩ := window_maps s.advance_ties
    refine (noticeLaw_iff _).mpr ⟨ho.congr fun c => by rw [record_advance]; rfl, ?_,
      hq.congr fun c => by rw [record_advance]; rfl, ?_, ?_, fun c => ?_⟩
    · rw [e2]; exact hw.congr fun c => by rw [record_advance]; rfl
    · rw [e1]; exact hseq
    · rw [e3]; exact hlen
    · rw [record_advance]; exact hp c
  | restart => exact noticeLaw_of_free rfl rfl rfl rfl
  | reset => exact noticeLaw_of_free rfl rfl rfl rfl

/-! ### In-flight counts under moves -/

theorem State.descriptorsOf_eq (s : State) (b : BindingNo) :
    s.descriptorsOf b = (s.trunk.queue.map (·.binding)).count (some b) := by
  simp only [descriptorsOf, List.count, List.countP_map]
  rfl

theorem State.descriptorsOf_congr {s t : State} (h : t.trunk.queue.map (·.binding) = s.trunk.queue.map (·.binding))
    (b : BindingNo) : t.descriptorsOf b = s.descriptorsOf b := by rw [descriptorsOf_eq, descriptorsOf_eq, h]

theorem State.flightLaw_iff (s : State) : s.FlightLaw ↔
    ∀ b, (s.record b).inFlight = s.descriptorsOf b ∧ (s.record b).FlightFits := forall_and.symm

/-- R5: the in-flight counts after a change of one record and of its descriptors. -/
theorem State.FlightLaw.alter {s t : State} {b : BindingNo} (h : s.FlightLaw) (others : s.AltersOnly t b)
    (queue : ∀ c, c ≠ b → t.descriptorsOf c = s.descriptorsOf c) (self : (t.record b).inFlight = t.descriptorsOf b)
    (fits : (t.record b).FlightFits) : t.FlightLaw := by
  refine t.flightLaw_iff.mpr fun c => ?_
  obtain ⟨h1, h2⟩ := s.flightLaw_iff.mp h c
  by_cases e : c = b
  · exact e ▸ ⟨self, fits⟩
  · refine ⟨by rw [others.inFlight e, queue c e, h1], ?_⟩
    unfold BindingRecord.FlightFits at h2 ⊢
    rwa [others.inFlight e, others.state e, others.phase e]

/-- The in-flight counts after a change of one record, with the same descriptors. -/
theorem State.FlightLaw.write {s u : State} (h : s.FlightLaw) (records : u.records = s.records)
    (queue : u.trunk.queue = s.trunk.queue) (b : BindingNo) (r : BindingRecord)
    (inFlight : r.inFlight = (s.record b).inFlight) (fits : r.FlightFits) : (u.putRecord b r).FlightLaw := by
  have same (c) : (u.putRecord b r).descriptorsOf c = s.descriptorsOf c := descriptorsOf_congr (by simp [queue]) c
  refine h.alter (altersOnly_putRecord records b r) (fun c _ => same c) ?_ ?_ <;> rw [record_putRecord_self]
  · rw [inFlight, same, h.1 b]
  · exact fits

/-- A record with a notice phase other than DRAIN, or in a state where nothing is sent for it, has nothing in flight. -/
theorem BindingRecord.FlightFits.inFlight_eq {r : BindingRecord} (h : r.FlightFits)
    (hs : r.state ≠ .live ∧ r.state ≠ .suspended ∧ r.state ≠ .silent)
    (hp : ¬((r.state = .announcing ∨ r.state = .retiring) ∧ r.phase = .drain)) : r.inFlight = 0 := by
  by_contra h0
  rcases h (Nat.pos_of_ne_zero h0) with e | e | e | e
  · exact hs.1 e
  · exact hs.2.1 e
  · exact hs.2.2 e
  · exact hp e

theorem BindingRecord.fits_of_nothing_inFlight {r : BindingRecord} (h : r.inFlight = 0) : r.FlightFits :=
  fun h' => absurd h h'.ne'

/-- R137, R138: the descriptor in transmission is one of the queue, and the rest of the queue holds the others. -/
theorem State.removeSending_count {s : State} {d : Descriptor} (h : s.sending = some d) (b : BindingNo) :
    s.descriptorsOf b = s.removeSending.descriptorsOf b + if d.binding = some b then 1 else 0 := by
  obtain ⟨hd, l₁, l₂, hq, hl⟩ := List.find?_eq_some_iff_append.mp h
  have e : s.removeSending.trunk.queue = l₁ ++ l₂ := by
    have : ∀ a ∈ l₁, ¬a.inTransmission = true := by simpa using hl
    simp [removeSending, hq, List.eraseP_append_right _ this, hd]
  simp only [descriptorsOf, e, hq, List.countP_append, List.countP_cons, beq_iff_eq]
  omega

theorem State.FlightLaw.dequeue {s : State} (h : s.FlightLaw) {d : Descriptor} (sending : s.sending = some d) :
    (s.removeSending.lessen d.binding).FlightLaw := by
  have count := removeSending_count sending
  unfold lessen
  split
  next b hb =>
    have self := count b
    rw [if_pos hb] at self
    refine h.alter (b := b) (altersOnly_putRecord (u := s.removeSending) rfl _ _) (fun c hc => ?_) ?_ ?_
    · have ne : d.binding ≠ some c := by rw [hb]; simpa using hc.symm
      have other := count c
      rw [if_neg ne] at other
      exact other.symm
    · have := h.1 b
      rw [record_updateRecord_self]
      change (s.record b).inFlight - 1 = s.removeSending.descriptorsOf b
      omega
    · rw [record_updateRecord_self]
      exact fun h' => h.2 b ((Nat.sub_le _ 1).trans_lt' h')
  next hb =>
    refine (flightLaw_iff _).mpr fun c => ?_
    have := count c
    rw [hb, if_neg (by simp)] at this
    exact ⟨(h.1 c).trans this, h.2 c⟩

/-- Table 8-B, R134: descriptors in flight keep a lost record's notice in DRAIN. -/
theorem BindingRecord.FlightFits.atSessionLoss {r : BindingRecord} (h : r.FlightFits) :
    r.atSessionLoss.FlightFits ∧ r.atSessionLoss.inFlight = r.inFlight := by
  cases hs : r.state
  case live =>
    simp only [BindingRecord.atSessionLoss, hs, FlightFits, and_true]
    exact fun h0 => by simp [h0]
  case announcing | retiring =>
    refine ⟨fun h0 => ?_, by simp [BindingRecord.atSessionLoss, hs]⟩
    have h0 : 0 < r.inFlight := by simpa [BindingRecord.atSessionLoss, hs] using h0
    have hp : r.phase = .drain := by simpa [FlightFits, hs, h0] using h
    simp [BindingRecord.atSessionLoss, BindingRecord.lossPhase, hs, hp, h0]
  case suspended | silent => simp [BindingRecord.atSessionLoss, hs, FlightFits]
  all_goals exact ⟨by simpa [BindingRecord.atSessionLoss, hs, FlightFits] using h, by simp [BindingRecord.atSessionLoss, hs]⟩

theorem State.FlightLaw.lose {s : State} (h : s.FlightLaw) (target : Session) : (s.sessionLoss target).FlightLaw := by
  obtain ⟨_, _, _, _, hu, _⟩ := s.sessionLoss_frame target
  refine (flightLaw_iff _).mpr fun b => ?_
  have fits : (s.purge.record b).FlightFits := by
    rw [purge_record]
    exact fun h' => h.2 b ((Nat.sub_le _ _).trans_lt' h')
  obtain ⟨f1, f2⟩ := fits.atSessionLoss
  rw [sessionLoss_record]
  refine ⟨?_, f1⟩
  have split := List.countP_eq_countP_filter_add s.trunk.queue (fun d => d.binding == some b) (·.inTransmission)
  have total := h.1 b
  rw [f2, purge_record, hu]
  simp only [descriptorsOf] at total ⊢
  omega

theorem State.FlightLaw.helloReleases {s : State} (h : s.FlightLaw) : s.releasesAtHelloAck.FlightLaw := by
  have effect (c) : (s.releasesAtHelloAck.record c).inFlight = (s.record c).inFlight ∧
      (s.releasesAtHelloAck.record c).FlightFits := by
    rcases s.releasesAtHelloAck_cases c with ⟨hc, ended⟩ | ⟨_, e⟩
    · obtain ⟨state, phase, _⟩ := (s.completesAtHelloAck_iff c).mp hc
      have zero := BindingRecord.FlightFits.inFlight_eq (h.2 c) (by simp [state]) (by simp [phase])
      exact ⟨by rw [zero, ended.inFlight], BindingRecord.fits_of_nothing_inFlight ended.inFlight⟩
    · have := h.2 c
      rcases e with e | e <;> rw [e] <;> exact ⟨rfl, this⟩
  obtain ⟨_, _, _, _, _, hu⟩ := s.releasesAtHelloAck_frame
  rw [hu] at effect ⊢
  exact (flightLaw_iff _).mpr fun c => ⟨(effect c).1.trans (h.1 c), (effect c).2⟩

/-- A part whose records are FREE and whose descriptors name none. -/
theorem State.flightLaw_of_free {s : State} (records : s.records = Vector.replicate 48 .free)
    (queue : ∀ d ∈ s.trunk.queue, d.binding = none) : s.FlightLaw := by
  refine s.flightLaw_iff.mpr fun b => ?_
  rw [record_replicate_free records]
  refine ⟨(List.countP_eq_zero.mpr fun d hd => ?_).symm, BindingRecord.fits_of_nothing_inFlight rfl⟩
  simp [queue d hd]

/-- Every move keeps the in-flight law of a state that has the notice law. -/
theorem State.Move.flightLaw {s t : State} (m : s.Move P t) (began : P.notice) (hn : s.NoticeLaw) (h : s.FlightLaw) :
    t.FlightLaw := by
  obtain ⟨_, _, ⟨hq, _⟩, _, _, hp⟩ := s.noticeLaw_iff.mp hn
  cases m with
  | part lists =>
    refine t.flightLaw_iff.mpr fun b => ?_
    rw [record_congr lists.records, descriptorsOf_congr lists.queue]
    exact s.flightLaw_iff.mp h b
  | stay b r hr => exact h.write rfl rfl b r hr.inFlight (hr.flight (hp b) (h.2 b))
  | owe b _ _ flight => exact h.write rfl rfl b _ rfl (BindingRecord.fits_of_nothing_inFlight (flight (h.2 b)))
  | leaveOwed b phase =>
    have state := hp b (by simp [phase])
    have zero := BindingRecord.FlightFits.inFlight_eq (h.2 b) (by rcases state with e | e <;> simp [e]) (by simp [phase])
    exact h.write rfl rfl b _ rfl (BindingRecord.fits_of_nothing_inFlight zero)
  | openEntry b x kind rest owed =>
    have phase : (s.record b).phase = .owed := (hn.1 b).mpr (by simp [owed])
    have state := hp b (by simp [phase])
    have zero := BindingRecord.FlightFits.inFlight_eq (h.2 b) (by rcases state with e | e <;> simp [e]) (by simp [phase])
    exact h.write rfl rfl b _ rfl (BindingRecord.fits_of_nothing_inFlight zero)
  | closeEntry e entry =>
    have phase : (s.record e.binding).phase = .outstanding := (hn.2.2.1 _).mpr (List.mem_map.mpr ⟨e, entry, rfl⟩)
    have state := hp e.binding (by simp [phase])
    have zero := BindingRecord.FlightFits.inFlight_eq (h.2 e.binding) (by rcases state with e | e <;> simp [e])
      (by simp [phase])
    have same : (s.record e.binding).answered.inFlight = (s.record e.binding).inFlight := by
      unfold BindingRecord.answered; split <;> rfl
    exact h.write rfl rfl _ _ same (BindingRecord.fits_of_nothing_inFlight (same.trans zero))
  | wait b state =>
    have zero := BindingRecord.FlightFits.inFlight_eq (h.2 b) (by simp [state]) (by simp [state])
    exact h.write rfl rfl b _ rfl (BindingRecord.fits_of_nothing_inFlight zero)
  | take b x w r entry wait hr =>
    have waits : (s.record b).state = .candidate ∨ (s.record b).state = .tagWait := by
      rcases wait with ⟨_, state⟩ | ⟨mem, _⟩
      · exact .inl state
      · exact .inr ((hq b).mpr mem)
    have zero := BindingRecord.FlightFits.inFlight_eq (h.2 b) (by rcases waits with e | e <;> simp [e])
      (by rcases waits with e | e <;> simp [e])
    exact h.write rfl rfl b r hr.inFlight (BindingRecord.fits_of_nothing_inFlight (hr.inFlight.trans zero))
  | create b r free _ _ _ _ _ inFlight =>
    have zero := BindingRecord.FlightFits.inFlight_eq (h.2 b) (by simp [free]) (by simp [free])
    exact h.write rfl rfl b r (inFlight.trans zero.symm) (BindingRecord.fits_of_nothing_inFlight inFlight)
  | @finish s' u b r wait phase flight tag ended =>
    have zero := flight began (hp b) (h.2 b)
    obtain ⟨⟨_, _, _, _, _, _, hu⟩, hr, _⟩ := finish_frame wait tag
    have same (c) : (u.putRecord b r).descriptorsOf c = s.descriptorsOf c := descriptorsOf_congr (by simp [hu]) c
    refine h.alter (b := b) (fun c hc => by rw [record_putRecord_ne _ r hc]; exact hr c) (fun c _ => same c) ?_ ?_ <;>
      rw [record_putRecord_self]
    · rw [same, ← h.1 b, zero, ended.inFlight]
    · exact BindingRecord.fits_of_nothing_inFlight ended.inFlight
  | append b d binding state =>
    refine h.alter (b := b) (altersOnly_putRecord rfl b _) (fun c hc => ?_) ?_ ?_
    · simp [descriptorsOf, binding, hc.symm]
    · rw [record_putRecord_self]
      simp [descriptorsOf, binding, h.1 b]
    · rw [record_putRecord_self]
      exact fun _ => .inl state
  | dequeue d sending => exact h.dequeue sending
  | releaseStranded x =>
    have d := s.dropsTags_releaseTag x
    refine (flightLaw_iff _).mpr fun c => ?_
    have same : (s.releaseTag x).descriptorsOf c = s.descriptorsOf c := by
      obtain ⟨_, _, _, _, _, e⟩ := d.frame
      exact descriptorsOf_congr (by rw [e]) c
    rw [same]
    have := s.flightLaw_iff.mp h c
    rcases d.records c with e | e <;> rw [e] <;> exact this
  | lose target => exact h.lose target
  | helloReleases => exact h.helloReleases
  | tick =>
    refine (flightLaw_iff _).mpr fun c => ?_
    rw [record_advance]
    exact s.flightLaw_iff.mp h c
  | restart =>
    refine flightLaw_of_free rfl fun d hd => ?_
    obtain ⟨_, _, rfl⟩ := List.mem_map.mp hd
    rfl
  | reset => exact flightLaw_of_free rfl fun d hd => (by cases hd)

/-! ### Keys under moves -/

/-- R8: the key law of a state in which no record has become active and no active record's key has changed. -/
theorem State.KeyLaw.of_active {s t : State} (h : s.KeyLaw)
    (sub : ∀ b, (t.record b).state.active = true →
      (s.record b).state.active = true ∧ (t.record b).key = (s.record b).key) : t.KeyLaw := by
  intro b c hb hc e
  obtain ⟨hb', eb⟩ := sub b hb
  obtain ⟨hc', ec⟩ := sub c hc
  exact h b c hb' hc' (by rw [← eb, ← ec, e])

/-- The key law after a write of one record that keeps its key. -/
theorem State.KeyLaw.alter {s t : State} {b : BindingNo} (h : s.KeyLaw) (others : s.AltersOnly t b)
    (self : (t.record b).state.active = true →
      (s.record b).state.active = true ∧ (t.record b).key = (s.record b).key) : t.KeyLaw := by
  refine h.of_active fun c hc => ?_
  by_cases e : c = b
  · exact e ▸ self (e ▸ hc)
  · exact ⟨by rwa [others.state e] at hc, others.key e⟩

theorem BindingRecord.active_atSessionLoss (r : BindingRecord) :
    r.atSessionLoss.state.active = r.state.active ∧ r.atSessionLoss.key = r.key := by
  cases hs : r.state <;> simp [BindingRecord.atSessionLoss, hs, RecordState.active]

theorem State.purge_key (s : State) (b : BindingNo) : (s.purge.record b).key = (s.record b).key := by rw [purge_record]

/-- Every move keeps the key law of a state that has the notice law. -/
theorem State.Move.keyLaw {s t : State} (m : s.Move P t) (hn : s.NoticeLaw) (h : s.KeyLaw) : t.KeyLaw := by
  obtain ⟨_, _, ⟨hq, _⟩, _, _, hp⟩ := s.noticeLaw_iff.mp hn
  have write (u : State) (hu : u.records = s.records) (b : BindingNo) (r : BindingRecord)
      (hr : r.state.active = true → (s.record b).state.active = true ∧ r.key = (s.record b).key) :
      (u.putRecord b r).KeyLaw := h.alter (altersOnly_putRecord hu b r) (by rwa [record_putRecord_self])
  cases m with
  | part lists => exact h.of_active fun b hb => by rw [record_congr lists.records] at hb ⊢; exact ⟨hb, rfl⟩
  | stay b r hr => exact write s rfl b r hr.key
  | owe b | leaveOwed b | openEntry b | append b => exact write _ rfl b _ fun h => ⟨h, rfl⟩
  | closeEntry e =>
    refine write _ rfl _ _ ?_
    unfold BindingRecord.answered
    split <;> exact fun h => ⟨h, rfl⟩
  | wait b state => exact write _ rfl b _ fun _ => ⟨by rw [state]; rfl, rfl⟩
  | take b x w r entry wait hr =>
    refine write _ rfl b r fun _ => ⟨?_, hr.key⟩
    rcases wait with ⟨_, state⟩ | ⟨mem, _⟩
    · rw [state]; rfl
    · rw [(hq b).mpr mem]; rfl
  | create b r free fresh =>
    have ne (c : BindingNo) (hc : c ≠ b) (active : ((s.putRecord b r).record c).state.active = true) :
        ((s.putRecord b r).record c).key ≠ r.key := by
      rw [record_putRecord_ne s r hc] at active ⊢
      exact fresh c active
    intro b₁ b₂ h₁ h₂ e
    by_cases e₁ : b₁ = b <;> by_cases e₂ : b₂ = b
    · rw [e₁, e₂]
    · exact absurd (by rw [← e, e₁, record_putRecord_self]) (ne b₂ e₂ h₂)
    · exact absurd (by rw [e, e₂, record_putRecord_self]) (ne b₁ e₁ h₁)
    · rw [record_putRecord_ne s r e₁] at h₁ e
      rw [record_putRecord_ne s r e₂] at h₂ e
      exact h b₁ b₂ h₁ h₂ e
  | finish b r wait _ _ tag ended =>
    refine h.alter (b := b) (fun c hc => by rw [record_putRecord_ne _ r hc]; exact (finish_frame wait tag).2.1 c) ?_
    rw [record_putRecord_self, ended.not_active]
    exact fun h => (by cases h)
  | dequeue d =>
    unfold lessen
    split
    · exact write s.removeSending rfl _ _ fun h => ⟨h, rfl⟩
    · exact h
  | releaseStranded x =>
    refine h.of_active fun c hc => ?_
    rcases (s.dropsTags_releaseTag x).records c with e | e <;> rw [e] at hc ⊢ <;> exact ⟨hc, rfl⟩
  | lose target =>
    refine h.of_active fun c hc => ?_
    obtain ⟨e1, e2⟩ := (s.purge.record c).active_atSessionLoss
    rw [sessionLoss_record] at hc ⊢
    rw [e1, (s.purge_phase_state c).2] at hc
    exact ⟨hc, by rw [e2, purge_key]⟩
  | helloReleases =>
    refine h.of_active fun c hc => ?_
    rcases s.releasesAtHelloAck_cases c with ⟨_, ended⟩ | ⟨_, e⟩
    · rw [ended.not_active] at hc; cases hc
    · rcases e with e | e <;> rw [e] at hc ⊢ <;> exact ⟨hc, rfl⟩
  | tick => exact h.of_active fun c hc => by rw [record_advance] at hc ⊢; exact ⟨hc, rfl⟩
  | restart | reset =>
    intro b c hb
    rw [record_replicate_free rfl] at hb
    cases hb

/-! ### Geometries and learnt CANDIDATEs under moves -/

theorem State.holdingLaw_iff (s : State) : s.HoldingLaw ↔ ∀ b, (s.record b).HoldingFits := by
  simp only [HoldingLaw, BindingRecord.HoldingFits, forall_and]

theorem BindingRecord.HoldingFits.untag {r : BindingRecord} (h : r.HoldingFits) : { r with tag := none }.HoldingFits :=
  ⟨h.1, h.2.1, fun _ _ => rfl⟩

theorem BindingRecord.Ended.holdingFits {r : BindingRecord} (h : r.Ended) : r.HoldingFits := by
  refine ⟨fun hs => ?_, fun hs => ?_, fun _ _ => h.tag⟩
  · rcases h.state with ⟨_, e⟩ | e
    · exact e
    · simp [e] at hs
  · rcases h.state with ⟨e, _⟩ | e <;> simp [e, RecordState.holdsTag] at hs

theorem BindingRecord.holdingFits_free : BindingRecord.free.HoldingFits :=
  (show BindingRecord.free.Ended from ⟨.inl ⟨rfl, rfl⟩, rfl, rfl, rfl⟩).holdingFits

theorem State.AltersOnly.holdingLaw {s t : State} {b : BindingNo} (h : s.HoldingLaw) (others : s.AltersOnly t b)
    (self : (t.record b).HoldingFits) : t.HoldingLaw := by
  have fits := s.holdingLaw_iff.mp h
  refine t.holdingLaw_iff.mpr fun c => ?_
  by_cases e : c = b
  · exact e ▸ self
  · rcases others c e with e | e <;> rw [e]
    · exact fits c
    · exact (fits c).untag

theorem BindingRecord.HoldingFits.atSessionLoss {r : BindingRecord} (h : r.HoldingFits) : r.atSessionLoss.HoldingFits := by
  cases hs : r.state <;> simp_all [BindingRecord.atSessionLoss, HoldingFits, RecordState.holdsTag]

/-- Every move keeps the holding law of a state that has the notice law. -/
theorem State.Move.holdingLaw {s t : State} (m : s.Move P t) (hn : s.NoticeLaw) (h : s.HoldingLaw) : t.HoldingLaw := by
  have fits := s.holdingLaw_iff.mp h
  have write (u : State) (hu : u.records = s.records) (b : BindingNo) (r : BindingRecord) (hr : r.HoldingFits) :
      (u.putRecord b r).HoldingLaw := (altersOnly_putRecord hu b r).holdingLaw h (by rwa [record_putRecord_self])
  cases m with
  | part lists => exact t.holdingLaw_iff.mpr fun b => by rw [record_congr lists.records]; exact fits b
  | stay b r hr => exact write s rfl b r (hr.holding (fits b))
  | owe b | leaveOwed b | openEntry b | append b => exact write _ rfl b _ (fits b)
  | closeEntry e =>
    refine write _ rfl _ _ ?_
    unfold BindingRecord.answered
    split <;> exact fits e.binding
  | wait b state tag trial => exact write _ rfl b _ ⟨by simp, fun _ => trial, by simp⟩
  | take b x w r _ _ _ _ holding => exact write _ rfl b r (holding hn (fits b))
  | create b r free _ state geometry tag =>
    exact write s rfl b r ⟨fun _ => geometry, by simp [state, RecordState.holdsTag], fun _ _ => tag⟩
  | finish b r wait _ _ tag ended =>
    refine State.AltersOnly.holdingLaw h (b := b)
      (fun c hc => by rw [record_putRecord_ne _ r hc]; exact (finish_frame wait tag).2.1 c) ?_
    rw [record_putRecord_self]
    exact ended.holdingFits
  | dequeue d =>
    unfold lessen
    split
    next b _ => exact write s.removeSending rfl b _ (fits b)
    · exact h
  | releaseStranded x =>
    refine (holdingLaw_iff _).mpr fun c => ?_
    rcases (s.dropsTags_releaseTag x).records c with e | e <;> rw [e]
    · exact fits c
    · exact (fits c).untag
  | lose target =>
    refine (holdingLaw_iff _).mpr fun c => ?_
    have : (s.purge.record c).HoldingFits := by rw [purge_record]; exact fits c
    rw [sessionLoss_record]
    exact this.atSessionLoss
  | helloReleases =>
    refine (holdingLaw_iff _).mpr fun c => ?_
    rcases s.releasesAtHelloAck_cases c with ⟨_, ended⟩ | ⟨_, e⟩
    · exact ended.holdingFits
    · rcases e with e | e <;> rw [e]
      · exact fits c
      · exact (fits c).untag
  | tick => exact (holdingLaw_iff _).mpr fun c => by rw [record_advance]; exact fits c
  | restart | reset =>
    exact (holdingLaw_iff _).mpr fun c => by rw [record_replicate_free rfl]; exact BindingRecord.holdingFits_free

/-! ### The window's counts under moves -/

/-- Every move keeps the transmission counts of a state that has the notice law. -/
theorem State.Move.windowLaw {s t : State} (m : s.Move P t) (hn : s.NoticeLaw) (h : s.WindowLaw) : t.WindowLaw := by
  obtain ⟨entries, nodup, due⟩ := h
  have same (u : State) (hu : u.notice = s.notice) : u.WindowLaw := by
    unfold WindowLaw
    rw [hu]
    exact ⟨entries, nodup, due⟩
  have empty (u : State) (hw : u.notice.window = []) (hr : u.notice.retransmit = []) : u.WindowLaw := by
    simp [WindowLaw, hw, hr]
  cases m with
  | part lists => exact lists.due hn ⟨entries, nodup, due⟩
  | stay | owe | leaveOwed | wait | take | create | append => exact ⟨entries, nodup, due⟩
  | openEntry b x kind rest owed room =>
    have fresh : s.nextSeq ∉ s.notice.retransmit := fun hq =>
      s.nextSeq_fresh (by simp only [Config.windowCapacity] at room; omega) (due _ hq)
    refine ⟨fun e he => ?_, nodup, fun q hq => ?_⟩
    · rcases List.mem_append.mp he with he | he
      · exact entries e he
      · obtain rfl := List.mem_singleton.mp he
        exact ⟨le_rfl, by simp [Config.maxTransmissions], fun hq => absurd hq fresh⟩
    · rw [putRecord_notice, List.map_append]
      exact List.mem_append_left _ (due q hq)
  | closeEntry e entry =>
    have kept (q) (hq : q ∈ s.notice.retransmit.erase e.seq) : q ∈ s.notice.retransmit ∧ q ≠ e.seq :=
      ((nodup.mem_erase_iff).mp hq).symm
    refine ⟨fun x hx => ?_, nodup.erase _, fun q hq => ?_⟩
    · obtain ⟨h1, h2, h3⟩ := entries x (List.mem_filter.mp hx).1
      exact ⟨h1, h2, fun hq => h3 (kept _ hq).1⟩
    · obtain ⟨hq, ne⟩ := kept q hq
      obtain ⟨x, hx, rfl⟩ := List.mem_map.mp (due q hq)
      exact List.mem_map.mpr ⟨x, List.mem_filter.mpr ⟨hx, by simpa using ne⟩, rfl⟩
  | finish b r wait _ _ tag =>
    obtain ⟨⟨_, _, _, _, _, _, hu⟩, _⟩ := finish_frame wait tag
    exact same _ (by rw [putRecord_notice, hu])
  | dequeue d => refine same _ ?_; unfold lessen; split <;> rfl
  | releaseStranded x =>
    obtain ⟨_, _, _, _, _, hu⟩ := (s.dropsTags_releaseTag x).frame
    exact same _ (by rw [hu])
  | lose target =>
    obtain ⟨_, _, _, _, hu, _⟩ := s.sessionLoss_frame target
    exact empty _ (by rw [hu]) (by rw [hu])
  | helloReleases =>
    obtain ⟨_, _, _, _, _, hu⟩ := s.releasesAtHelloAck_frame
    exact same _ (by rw [hu])
  | tick =>
    refine ⟨fun e he => ?_, nodup, fun q hq => ?_⟩
    · obtain ⟨x, hx, rfl⟩ := List.mem_map.mp he
      obtain ⟨h1, h2, h3⟩ := entries x hx
      exact ⟨h1, h2, fun hq => ⟨(h3 hq).1, by simp [(h3 hq).2, tickTimer]⟩⟩
    · rw [(window_maps s.advance_ties).1]; exact due q hq
  | restart | reset => exact empty _ rfl rfl

/-- The laws that build on the notice law hold of every state reached. -/
theorem State.Reaches.keeps_under_noticeLaw {Q : State → Prop} (step : ∀ s t, s.Move P t → s.NoticeLaw → Q s → Q t)
    {s t : State} (h : s.Reaches P t) (began : P.notice) (hn : s.NoticeLaw) (hs : Q s) : Q t :=
  (h.keeps (Q := fun u => u.NoticeLaw ∧ Q u) (fun _ _ m ⟨hn, hq⟩ => ⟨m.noticeLaw began hn, step _ _ m hn hq⟩) ⟨hn, hs⟩).2

theorem State.Reaches.noticeLaw {s t : State} (h : s.Reaches P t) (began : P.notice) : s.NoticeLaw → t.NoticeLaw :=
  h.keeps fun _ _ m => m.noticeLaw began

/-! ### Tags and records in agreement -/

/-- The part of the tag law that says that the Tag Table, the free list, the stranded count and the records' tag fields tell
the same story (R67, R68, R80). -/
def State.TagsAgree (s : State) : Prop :=
  (∀ t b, s.tagEntry t = .held b ↔ (s.record b).tag = some t) ∧
  s.tags.freeList.Nodup ∧ (∀ t, t ∈ s.tags.freeList ↔ ∃ age, s.tagEntry t = .free age) ∧
  s.tags.strandedCount = s.countStranded

theorem State.tagLaw_iff (s : State) : s.TagLaw ↔ s.TagsAgree ∧ (∀ b, (s.record b).TagFits) ∧
    ∀ e ∈ s.notice.window, (s.record e.binding).tag = some e.tag := by
  simp only [TagLaw, TagsAgree, BindingRecord.TagFits, forall_and]
  tauto

/-- Whether a Tag Table entry is STRANDED. -/
def TagEntry.isStranded : TagEntry → Bool
  | .stranded _ => true
  | .free _ | .held _ => false

theorem State.countStranded_eq (s : State) :
    s.countStranded = (List.finRange 31).countP fun x => (s.tagEntry x).isStranded := rfl

/-- Counting after a change at one place. -/
theorem countP_change {l : List Tag} {x : Tag} {p p' : Tag → Bool} (nodup : l.Nodup) (mem : x ∈ l)
    (others : ∀ y, y ≠ x → p' y = p y) :
    l.countP p' + (p x).toNat = l.countP p + (p' x).toNat := by
  induction l with
  | nil => cases mem
  | cons y l ih =>
    obtain ⟨hy, nodup⟩ := List.nodup_cons.mp nodup
    simp only [List.countP_cons]
    rcases List.mem_cons.mp mem with rfl | mem
    · have : l.countP p' = l.countP p := List.countP_congr fun z hz => by
        rw [others z fun e => hy (e ▸ hz)]
      cases p x <;> cases p' x <;> simp [this]
    · have ne : y ≠ x := fun e => hy (e ▸ mem)
      rw [others y ne]
      have := ih nodup mem
      omega

theorem State.countStranded_set {s u : State} {x : Tag} {e : TagEntry} (h : u.tags.table = s.tags.table.set x e) :
    u.countStranded + (s.tagEntry x).isStranded.toNat = s.countStranded + e.isStranded.toNat := by
  have entry (y : Tag) : u.tagEntry y = if y = x then e else s.tagEntry y := by
    have : u.tagEntry y = (s.setTagEntry x e).tagEntry y := by rw [tagEntry, h]; rfl
    rw [this]
    split
    next hy => rw [hy, tagEntry_setTagEntry_self]
    next hy => exact tagEntry_setTagEntry_ne s e hy
  have := countP_change (List.nodup_finRange 31) (List.mem_finRange x)
    (p := fun y => (s.tagEntry y).isStranded) (p' := fun y => (u.tagEntry y).isStranded)
    (fun y hy => by simp [entry, hy])
  rw [countStranded_eq, countStranded_eq]
  simpa [entry] using this

/-- The entries of a table after a write. -/
theorem State.tagEntry_set {s u : State} {x : Tag} {e : TagEntry} (h : u.tags.table = s.tags.table.set x e) (y : Tag) :
    u.tagEntry y = if y = x then e else s.tagEntry y := by
  have : u.tagEntry y = (s.setTagEntry x e).tagEntry y := by rw [tagEntry, h]; rfl
  rw [this]
  split
  next hy => rw [hy, tagEntry_setTagEntry_self]
  next hy => exact tagEntry_setTagEntry_ne s e hy

theorem State.TagsAgree.congr {s u : State} (h : s.TagsAgree) (tags : ∀ b, (u.record b).tag = (s.record b).tag)
    (table : u.tags.table = s.tags.table) (freeList : u.tags.freeList = s.tags.freeList)
    (count : u.tags.strandedCount = s.tags.strandedCount) : u.TagsAgree := by
  have entry := tagEntry_congr table
  obtain ⟨h1, h2, h3, h4⟩ := h
  refine ⟨fun x b => by rw [entry, tags, h1], freeList ▸ h2, fun x => by rw [freeList, entry, h3], ?_⟩
  rw [count, h4, countStranded_eq, countStranded_eq]
  simp only [entry]

/-- R67, R72, R73: a FREE tag goes to a record without one. -/
theorem State.TagsAgree.hold {s u : State} (h : s.TagsAgree) {b : BindingNo} {x : Tag}
    (entry : ∃ age, s.tagEntry x = .free age) (untagged : (s.record b).tag = none) (tag : (u.record b).tag = some x)
    (others : ∀ c, c ≠ b → (u.record c).tag = (s.record c).tag) (table : u.tags.table = s.tags.table.set x (.held b))
    (freeList : u.tags.freeList = s.tags.freeList.erase x) (count : u.tags.strandedCount = s.tags.strandedCount) :
    u.TagsAgree := by
  obtain ⟨h1, h2, h3, h4⟩ := h
  obtain ⟨age, hx⟩ := entry
  have entries := tagEntry_set table
  refine ⟨fun y c => ?_, freeList ▸ h2.erase x, fun y => ?_, ?_⟩
  · rw [entries]
    by_cases hc : c = b
    · subst hc
      by_cases hy : y = x
      · simp [hy, tag]
      · rw [if_neg hy, h1, untagged, tag]
        simp [Ne.symm hy]
    · rw [others c hc, ← h1]
      by_cases hy : y = x
      · simp [hy, hx, Ne.symm hc]
      · simp [hy]
  · rw [freeList, h2.mem_erase_iff, h3, entries]
    by_cases hy : y = x <;> simp [hy]
  · have := countStranded_set table
    simp only [hx, TagEntry.isStranded] at this
    rw [count, h4]
    exact this.symm

/-- R76, R79: a record's tag leaves it, for the free list or as STRANDED; or a STRANDED one goes free. -/
theorem State.TagsAgree.move {s u : State} (h : s.TagsAgree) {x : Tag} {e : TagEntry}
    (notFree : ∀ age, s.tagEntry x ≠ .free age) (notHeld : ∀ b, e ≠ .held b)
    (tags : ∀ b, (u.record b).tag = if s.tagEntry x = .held b then none else (s.record b).tag)
    (table : u.tags.table = s.tags.table.set x e)
    (freeList : u.tags.freeList = s.tags.freeList ++ if e.isStranded then [] else [x])
    (count : u.tags.strandedCount + (s.tagEntry x).isStranded.toNat = s.tags.strandedCount + e.isStranded.toNat) :
    u.TagsAgree := by
  obtain ⟨h1, h2, h3, h4⟩ := h
  have entries := tagEntry_set table
  have absent : x ∉ s.tags.freeList := fun hx => by
    obtain ⟨age, hx⟩ := (h3 x).mp hx
    exact notFree age hx
  refine ⟨fun y c => ?_, ?_, fun y => ?_, ?_⟩
  · rw [entries, tags]
    by_cases hc : s.tagEntry x = .held c
    · have := (h1 x c).mp hc
      by_cases hy : y = x
      · simp [hy, hc, notHeld]
      · simp [hy, hc, h1, this, Ne.symm hy]
    · by_cases hy : y = x
      · simp [hy, hc, notHeld, ← h1]
      · simp [hy, hc, h1]
  · rw [freeList]
    split
    · simpa using h2
    · simpa [List.nodup_append, h2] using fun y hy (e : y = x) => absent (e ▸ hy)
  · rw [freeList, List.mem_append, h3, entries]
    by_cases hy : y = x
    · subst hy
      cases e with
      | free age => simp [TagEntry.isStranded]
      | held b => exact absurd rfl (notHeld b)
      | stranded q => simp [TagEntry.isStranded, notFree]
    · cases e <;> simp [hy, TagEntry.isStranded]
  · have := countStranded_set table
    omega

/-- R76: a release keeps the agreement. -/
theorem State.TagsAgree.releaseTag {s : State} (h : s.TagsAgree) (x : Tag) : (s.releaseTag x).TagsAgree := by
  have count := countStranded_set (s := s) (u := s.setTagEntry x (.free 0)) rfl
  cases hx : s.tagEntry x with
  | free age => rw [releaseTag_free hx]; exact h
  | held b =>
    rw [releaseTag_held hx]
    refine h.move (x := x) (e := .free 0) (by simp [hx]) (by simp) (fun c => ?_) rfl rfl (by rw [hx]; rfl)
    rw [record_putRecord, hx]
    by_cases hc : c = b
    · simp [hc]
    · simp [hc, Ne.symm hc, record]
  | stranded q =>
    rw [releaseTag_stranded hx]
    refine h.move (x := x) (e := .free 0) (by simp [hx]) (by simp) (fun c => by simp [hx, record]) rfl rfl ?_
    have pos : 0 < s.tags.strandedCount := by
      rw [h.2.2.2, countStranded_eq, List.countP_pos_iff]
      exact ⟨x, List.mem_finRange x, by rw [hx]; rfl⟩
    simp only [hx, TagEntry.isStranded, Bool.toNat_true, Bool.toNat_false]
    omega

/-- R79: stranding a record's tag keeps the agreement. -/
theorem State.TagsAgree.strandTag {s : State} (h : s.TagsAgree) {b : BindingNo} {x : Tag}
    (tag : (s.record b).tag = some x) (q : Byte) : (s.strandTag b x q).TagsAgree := by
  have hx := (h.1 x b).mpr tag
  rw [strandTag_eq]
  refine h.move (x := x) (e := .stranded q) (by simp [hx]) (by simp) (fun c => ?_) rfl ?_ (by rw [hx]; rfl)
  · rw [record_putRecord, hx]
    by_cases hc : c = b
    · simp [hc]
    · simp [hc, Ne.symm hc, record]
  · simp [TagEntry.isStranded]

/-- The tags of the records after the release of a tag that a record holds. -/
theorem State.releaseTag_tag {s : State} (h : s.TagsAgree) {b : BindingNo} {x : Tag} (tag : (s.record b).tag = some x)
    (c : BindingNo) : ((s.releaseTag x).record c).tag = if c = b then none else (s.record c).tag := by
  rw [releaseTag_held ((h.1 x b).mpr tag), record_putRecord]
  split <;> rfl

/-! ### The tag law under moves -/

/-- R2, R67: the tag law after a change of one record. -/
theorem State.TagLaw.alter {s t : State} {b : BindingNo} (h : s.TagLaw) (agree : t.TagsAgree)
    (tags : ∀ c, c ≠ b → (t.record c).tag = (s.record c).tag) (states : ∀ c, c ≠ b → (t.record c).state = (s.record c).state)
    (self : (t.record b).TagFits) (window : ∀ e ∈ t.notice.window, (t.record e.binding).tag = some e.tag) : t.TagLaw := by
  refine t.tagLaw_iff.mpr ⟨agree, fun c => ?_, window⟩
  by_cases e : c = b
  · exact e ▸ self
  · have := (s.tagLaw_iff.mp h).2.1 c
    unfold BindingRecord.TagFits at this ⊢
    rwa [tags c e, states c e]

/-- The tag law after a write of one record that keeps its tag. -/
theorem State.TagLaw.write {s u : State} (h : s.TagLaw) (records : u.records = s.records)
    (table : u.tags.table = s.tags.table) (freeList : u.tags.freeList = s.tags.freeList)
    (count : u.tags.strandedCount = s.tags.strandedCount)
    (window : ∀ e ∈ u.notice.window, e ∈ s.notice.window ∨ (s.record e.binding).tag = some e.tag) (b : BindingNo)
    (r : BindingRecord) (tag : r.tag = (s.record b).tag) (fits : r.TagFits) : (u.putRecord b r).TagLaw := by
  obtain ⟨agree, _, entries⟩ := s.tagLaw_iff.mp h
  have tags (c) : ((u.putRecord b r).record c).tag = (s.record c).tag := by
    rw [record_putRecord]
    split
    next hc => rw [hc, tag]
    next => rw [record_congr records]
  refine h.alter (b := b) (agree.congr tags table freeList count) (fun c _ => tags c)
    (fun c hc => by rw [record_putRecord_ne u r hc, record_congr records]) (by rwa [record_putRecord_self])
    fun e he => ?_
  rw [tags]
  rcases window e he with he | he
  · exact entries e he
  · exact he

/-- R149: a tag that is not among the released ones stays with its record. -/
theorem State.releaseTags_keep {l : List Tag} {s : State} (h : s.TagsAgree) {b : BindingNo} {x : Tag}
    (tag : (s.record b).tag = some x) (hx : x ∉ l) : ((l.foldl State.releaseTag s).record b).tag = some x := by
  induction l generalizing s with
  | nil => exact tag
  | cons y l ih =>
    obtain ⟨ne, hx⟩ := not_or.mp (mt List.mem_cons.mpr hx)
    refine ih (h.releaseTag y) ?_ hx
    have entry : (s.releaseTag y).tagEntry x = s.tagEntry x := by
      have (u : State) (hu : u.tags.table = s.tags.table.set y (.free 0)) : u.tagEntry x = s.tagEntry x := by
        rw [tagEntry_set hu, if_neg ne]
      cases hy : s.tagEntry y with
      | free age => rw [releaseTag_free hy]
      | held c => rw [releaseTag_held hy]; exact this _ rfl
      | stranded q => rw [releaseTag_stranded hy]; exact this _ rfl
    rw [← (h.releaseTag y).1, entry]
    exact (h.1 x b).mpr tag

theorem State.TagsAgree.releaseTags {s : State} (h : s.TagsAgree) (l : List Tag) :
    (l.foldl State.releaseTag s).TagsAgree := by
  induction l generalizing s with
  | nil => exact h
  | cons x l ih => exact ih (h.releaseTag x)

/-- R76: a released tag is FREE. -/
theorem State.releaseTag_free_self (s : State) (x : Tag) : ∃ age, (s.releaseTag x).tagEntry x = .free age := by
  have (u : State) (hu : u.tags.table = s.tags.table.set x (.free 0)) : ∃ age, u.tagEntry x = .free age :=
    ⟨0, by rw [tagEntry_set hu, if_pos rfl]⟩
  cases hx : s.tagEntry x with
  | free age => rw [releaseTag_free hx]; exact ⟨age, hx⟩
  | held c => rw [releaseTag_held hx]; exact this _ rfl
  | stranded q => rw [releaseTag_stranded hx]; exact this _ rfl

/-- R76: a release leaves a FREE tag FREE. -/
theorem State.releaseTag_free_other {s : State} {x : Tag} {age : Nat} (h : s.tagEntry x = .free age) (y : Tag) :
    (s.releaseTag y).tagEntry x = .free age := by
  have (u : State) (hu : u.tags.table = s.tags.table.set y (.free 0)) (hy : ∀ age, s.tagEntry y ≠ .free age) :
      u.tagEntry x = .free age := by
    rw [tagEntry_set hu, if_neg fun (e : x = y) => hy age (e ▸ h), h]
  cases hy : s.tagEntry y with
  | free age => rwa [releaseTag_free hy]
  | held c => rw [releaseTag_held hy]; exact this _ rfl (by simp [hy])
  | stranded q => rw [releaseTag_stranded hy]; exact this _ rfl (by simp [hy])

theorem State.releaseTags_free {l : List Tag} {s : State} {x : Tag} (h : x ∈ l ∨ ∃ age, s.tagEntry x = .free age) :
    ∃ age, (l.foldl State.releaseTag s).tagEntry x = .free age := by
  induction l generalizing s with
  | nil => exact h.resolve_left (List.not_mem_nil)
  | cons y l ih =>
    refine ih ?_
    rcases h with h | ⟨age, h⟩
    · rcases List.mem_cons.mp h with rfl | h
      · exact .inr (s.releaseTag_free_self x)
      · exact .inl h
    · exact .inr ⟨age, releaseTag_free_other h y⟩

/-- R6, R119: the tags after a record has given up its own. -/
theorem State.GivesUp.tagsAgree {s u : State} {b : BindingNo} {p : Prop} (h : s.GivesUp b p u) (hp : p)
    (agree : s.TagsAgree) : u.TagsAgree ∧ ∀ c, (u.record c).tag = if c = b then none else (s.record c).tag := by
  cases h with
  | nothing none => exact ⟨agree, fun c => by split; next hc => rw [hc, none hp]
                                              next => rfl⟩
  | release x tag => exact ⟨agree.releaseTag x, releaseTag_tag agree (tag hp)⟩
  | strand x q tag =>
    refine ⟨agree.strandTag (tag hp) q, fun c => ?_⟩
    rw [strandTag_eq, record_putRecord]
    split <;> rfl

theorem BindingRecord.Ended.tagFits {r : BindingRecord} (h : r.Ended) : r.TagFits :=
  ⟨fun _ => h.tag, fun hs => by rcases h.state with ⟨e, _⟩ | e <;> simp [e, RecordState.holdsTag] at hs⟩

theorem BindingRecord.TagFits.atSessionLoss {r : BindingRecord} (h : r.TagFits) :
    r.atSessionLoss.TagFits ∧ r.atSessionLoss.tag = r.tag := by
  cases hs : r.state <;>
    simp_all [BindingRecord.atSessionLoss, TagFits, RecordState.holdsTag, RecordState.lacksTag]

theorem State.purge_tag (s : State) (b : BindingNo) : (s.purge.record b).tag = (s.record b).tag := by rw [purge_record]

/-- A part whose records are FREE and whose tags are all FREE and in the free list. -/
theorem State.tagLaw_of_free {s : State} (records : s.records = Vector.replicate 48 .free)
    (table : s.tags.table = Vector.replicate 31 (.free Config.maxAge)) (freeList : s.tags.freeList = List.finRange 31)
    (count : s.tags.strandedCount = 0) (window : s.notice.window = []) : s.TagLaw := by
  have free := record_replicate_free records
  have entry (x : Tag) : s.tagEntry x = .free Config.maxAge := by simp [tagEntry, table]
  refine s.tagLaw_iff.mpr ⟨⟨fun x b => ?_, ?_, fun x => ?_, ?_⟩, fun b => ?_, by simp [window]⟩
  · simp [entry, free, BindingRecord.free]
  · rw [freeList]; exact List.nodup_finRange 31
  · simp [freeList, entry]
  · rw [count, countStranded_eq, eq_comm, List.countP_eq_zero]
    simp [entry, TagEntry.isStranded]
  · rw [free]; exact ⟨fun _ => rfl, fun h => by cases h⟩

theorem State.tagEntry_advance (s : State) (x : Tag) : s.advance.tagEntry x = (s.tagEntry x).tick := by
  simp [advance, tagEntry]

theorem State.TagsAgree.advance {s : State} (h : s.TagsAgree) : s.advance.TagsAgree := by
  obtain ⟨h1, h2, h3, h4⟩ := h
  have held (x b) : (s.tagEntry x).tick = .held b ↔ s.tagEntry x = .held b := by
    cases s.tagEntry x <;> simp [TagEntry.tick]
  have free (x) : (∃ age, (s.tagEntry x).tick = .free age) ↔ ∃ age, s.tagEntry x = .free age := by
    cases s.tagEntry x <;> simp [TagEntry.tick]
  have stranded (x) : (s.tagEntry x).tick.isStranded = (s.tagEntry x).isStranded := by
    cases s.tagEntry x <;> rfl
  refine ⟨fun x b => ?_, h2, fun x => ?_, ?_⟩
  · rw [tagEntry_advance, record_advance, held]; exact h1 x b
  · rw [tagEntry_advance, free]; exact h3 x
  · rw [countStranded_eq] at h4 ⊢
    simp only [tagEntry_advance, stranded]
    exact h4

/-- R149: the releases of a HELLO-ACK keep the tag law: the records that lose their tags complete. -/
theorem State.TagLaw.helloReleases {s : State} (h : s.TagLaw) (hn : s.NoticeLaw) : s.releasesAtHelloAck.TagLaw := by
  obtain ⟨agree, fits, entries⟩ := s.tagLaw_iff.mp h
  obtain ⟨_, ⟨hw, _⟩, _, _, _, _⟩ := s.noticeLaw_iff.mp hn
  obtain ⟨tags, htags⟩ : ∃ tags, tags = (List.finRange 31).filter s.releasedAtHelloAck := ⟨_, rfl⟩
  have nodup : (allBindings.filter s.completesAtHelloAck).Nodup := (List.nodup_finRange 48).filter _
  have released := agree.releaseTags tags
  -- The tag of a record that completes is released, and no other record's tag is.
  have completes (b) (hb : s.completesAtHelloAck b = true) : ((tags.foldl State.releaseTag s).record b).tag = none := by
    obtain ⟨state, phase, x, tag, entry⟩ := (s.completesAtHelloAck_iff b).mp hb
    have mem : x ∈ tags := by
      simp [htags, releasedAtHelloAck, entry, BindingRecord.awaitsRelease, state, phase]
    obtain ⟨age, free⟩ := releaseTags_free (s := s) (.inl mem)
    rcases (s.dropsTags_releaseTags tags).records b with e | e
    · have := (released.1 x b).mpr (by rw [e, tag])
      rw [free] at this
      cases this
    · rw [e]
  have keeps (b x) (tag : (s.record b).tag = some x) (hb : s.completesAtHelloAck b = false) :
      ((tags.foldl State.releaseTag s).record b).tag = some x := by
    have entry := (agree.1 x b).mpr tag
    refine releaseTags_keep agree tag fun mem => ?_
    simp only [htags, List.mem_filter, releasedAtHelloAck, entry] at mem
    rw [completesAtHelloAck, mem.2, tag] at hb
    simp [entry] at hb
  obtain ⟨effect, frame⟩ := completeRetirements_effect nodup (tags.foldl State.releaseTag s)
  have tag (b) : (s.releasesAtHelloAck.record b).tag = ((tags.foldl State.releaseTag s).record b).tag := by
    rw [releasesAtHelloAck, ← htags, effect]
    split
    next mem => rw [completes b (List.mem_filter.mp mem).2, (ended_retiredOrFree _ _).tag]
    next => rfl
  have manager : s.releasesAtHelloAck.tags = (tags.foldl State.releaseTag s).tags := by
    rw [releasesAtHelloAck, ← htags]
    have := congrArg (fun u : State => u.tags) frame
    exact this
  refine (tagLaw_iff _).mpr ⟨released.congr tag (by rw [manager]) (by rw [manager]) (by rw [manager]),
    fun b => ?_, fun e he => ?_⟩
  · rcases s.releasesAtHelloAck_cases b with ⟨_, ended⟩ | ⟨hb, e⟩
    · exact ended.tagFits
    · have state : (s.releasesAtHelloAck.record b).state = (s.record b).state := by rcases e with e | e <;> rw [e]
      obtain ⟨f1, f2⟩ := fits b
      unfold BindingRecord.TagFits
      rw [state]
      refine ⟨fun hs => ?_, fun hs => ?_⟩
      · rcases e with e | e <;> rw [e]
        exact f1 hs
      · obtain ⟨x, hx⟩ := Option.isSome_iff_exists.mp (f2 hs)
        rw [tag, keeps b x hx hb]; rfl
  · obtain ⟨_, _, _, _, _, hu⟩ := s.releasesAtHelloAck_frame
    rw [hu] at he
    have phase := (hw e.binding).mpr (List.mem_map.mpr ⟨e, he, rfl⟩)
    rw [tag]
    refine keeps _ _ (entries e he) ?_
    by_contra hb
    have := (s.completesAtHelloAck_iff e.binding).mp (by simpa using hb)
    exact absurd (this.2.1.symm.trans phase) (by simp)

/-- Every move keeps the tag law of a state that has the notice law. -/
theorem State.Move.tagLaw {s t : State} (m : s.Move P t) (began : P.notice ∧ P.tags) (hn : s.NoticeLaw)
    (h : s.TagLaw) : t.TagLaw := by
  obtain ⟨_, ⟨hw, hn'⟩, ⟨hq, _⟩, hseq, _, hp⟩ := s.noticeLaw_iff.mp hn
  obtain ⟨agree, fits, entries⟩ := s.tagLaw_iff.mp h
  -- A record whose phase is not OUTSTANDING has no window entry.
  have elsewhere (b) (hb : (s.record b).phase ≠ .outstanding) (e : WindowEntry) (he : e ∈ s.notice.window) :
      e.binding ≠ b := fun eq => hb (eq ▸ (hw e.binding).mpr (List.mem_map.mpr ⟨e, he, rfl⟩))
  cases m with
  | part lists =>
    refine t.tagLaw_iff.mpr ⟨agree.congr (fun b => by rw [record_congr lists.records]) lists.table lists.freeList
      lists.strandedCount, fun b => by rw [record_congr lists.records]; exact fits b, fun e he => ?_⟩
    have : e.ties ∈ s.notice.window.map WindowEntry.ties := lists.window ▸ List.mem_map.mpr ⟨e, he, rfl⟩
    obtain ⟨e', he', ties⟩ := List.mem_map.mp this
    simp only [WindowEntry.ties, Prod.mk.injEq] at ties
    rw [record_congr lists.records, ← ties.2.1, ← ties.2.2]
    exact entries e' he'
  | stay b r hr => exact h.write rfl rfl rfl rfl (fun _ => .inl) b r hr.tag (hr.tagged (fits b))
  | owe b | leaveOwed b | append b => exact h.write rfl rfl rfl rfl (fun _ => .inl) b _ rfl (fits b)
  | openEntry b x kind rest owed room tag =>
    refine h.write (u := { s with notice := { s.notice with
      owed := rest, window := s.notice.window ++ [WindowEntry.mk s.nextSeq kind b x 1 none] } }) rfl rfl rfl rfl
        (fun e he => ?_) b _ rfl (fits b)
    rcases List.mem_append.mp he with he | he
    · exact .inl he
    · obtain rfl := List.mem_singleton.mp he
      exact .inr tag
  | closeEntry e =>
    refine TagLaw.write (u := s.removeEntry e.seq) h rfl rfl rfl rfl (fun _ he => .inl (List.mem_filter.mp he).1) _ _ ?_ ?_
    · unfold BindingRecord.answered; split <;> rfl
    · unfold BindingRecord.answered; split <;> exact fits _
  | wait b state tag =>
    exact h.write (u := { s with tags := { s.tags with waitQueue := s.tags.waitQueue ++ [b] } }) rfl rfl rfl rfl
      (fun _ => .inl) b _ rfl ⟨fun _ => tag, fun h => by cases h⟩
  | take b x w r entry wait hr untagged =>
    have waits : (s.record b).state = .candidate ∨ (s.record b).state = .tagWait := by
      rcases wait with ⟨_, state⟩ | ⟨mem, _⟩
      · exact .inl state
      · exact .inr ((hq b).mpr mem)
    have without : (s.record b).tag = none := by
      rcases waits with state | state
      · exact untagged hn state
      · exact (fits b).1 (by rw [state]; rfl)
    have none := (hp b).phase_eq (by rcases waits with e | e <;> rw [e] <;> rfl)
    have others (c) (hc : c ≠ b) : (State.putRecord { s with tags := { s.tags with
        table := s.tags.table.set x (.held b), freeList := s.tags.freeList.erase x, waitQueue := w } } b r).record c =
        s.record c := record_putRecord_ne _ r hc
    refine h.alter (b := b) (agree.hold entry without (by rw [record_putRecord_self, hr.tag])
      (fun c hc => by rw [others c hc]) rfl rfl rfl) (fun c hc => by rw [others c hc]) (fun c hc => by rw [others c hc])
      ?_ fun e he => ?_
    · rw [record_putRecord_self]
      refine ⟨fun hs => ?_, fun _ => by rw [hr.tag]; rfl⟩
      rcases hr.state with e | ⟨_, e⟩ <;> simp [e, RecordState.lacksTag] at hs
    · rw [others _ (elsewhere b (by simp [none]) e he)]
      exact entries e he
  | create b r free _ state _ tag =>
    have untagged := (fits b).1 (by rw [free]; rfl)
    exact h.write rfl rfl rfl rfl (fun _ => .inl) b r (tag.trans untagged.symm)
      ⟨fun _ => tag, fun hs => by simp [state, RecordState.holdsTag] at hs⟩
  | @finish s' u b r wait phase _ tag ended =>
    have unlisted := (NoticePhase.unlisted_iff _).mp (phase began.1 (hp b))
    have before : s'.TagsAgree ∧ s'.records = s.records := by
      rcases wait with rfl | ⟨rfl, _⟩
      · exact ⟨agree.congr (fun _ => rfl) rfl rfl rfl, rfl⟩
      · exact ⟨agree, rfl⟩
    obtain ⟨after, tags⟩ := tag.tagsAgree ⟨began, hn, h⟩ before.1
    have putTags (c) : ((u.putRecord b r).record c).tag = (u.record c).tag := by
      rw [record_putRecord]
      split
      next hc => rw [tags, if_pos hc, ended.tag]
      next => rfl
    have others (c) (hc : c ≠ b) : ((u.putRecord b r).record c).tag = (s.record c).tag := by
      rw [putTags, tags, if_neg hc, record_congr before.2]
    obtain ⟨⟨_, _, _, _, _, _, hu⟩, hr, _⟩ := finish_frame wait tag
    refine h.alter (b := b) (after.congr putTags rfl rfl rfl) others (fun c hc => ?_) ?_ fun e he => ?_
    · rw [record_putRecord_ne u r hc]
      rcases hr c with e | e <;> rw [e]
    · rw [record_putRecord_self]; exact ended.tagFits
    · rw [putRecord_notice, hu] at he
      rw [others _ (elsewhere b unlisted.2 e he)]
      exact entries e he
  | dequeue d =>
    unfold lessen
    split
    next b _ => exact h.write (u := s.removeSending) rfl rfl rfl rfl (fun _ => .inl) b _ rfl (fits b)
    · exact h
  | releaseStranded x q entry =>
    refine (tagLaw_iff _).mpr ⟨agree.releaseTag x, ?_, ?_⟩ <;> rw [releaseTag_stranded entry]
    · exact fits
    · exact entries
  | lose target =>
    have tags (c) : ((s.sessionLoss target).record c).TagFits ∧
        ((s.sessionLoss target).record c).tag = (s.record c).tag := by
      have : (s.purge.record c).TagFits := by rw [purge_record]; exact fits c
      rw [sessionLoss_record, ← purge_tag]
      exact this.atSessionLoss
    obtain ⟨_, _, _, _, hu, _⟩ := s.sessionLoss_frame target
    exact (tagLaw_iff _).mpr ⟨agree.congr (fun c => (tags c).2) (by rw [hu]) (by rw [hu]) (by rw [hu]),
      fun c => (tags c).1, by simp [hu]⟩
  | helloReleases => exact h.helloReleases hn
  | tick =>
    refine (tagLaw_iff _).mpr ⟨agree.advance, fun b => by rw [record_advance]; exact fits b, fun e he => ?_⟩
    obtain ⟨x, hx, rfl⟩ := List.mem_map.mp he
    rw [record_advance]
    exact entries x hx
  | restart => exact tagLaw_of_free rfl rfl rfl rfl rfl
  | reset => exact tagLaw_of_free rfl rfl rfl rfl rfl

end Sys2Proof.Machine

namespace Sys2Proof.Machine

set_option Elab.async false

variable {P : Premises}

/-! ### The head of the free list

R73 asks that no record waits while the head of the free list is ready. Between the grants of an event and the next ones a tag
may join the free list, and a record the wait queue when no tag is ready for it; `Calm` says that no more than this happens. -/

/-- A change after which records wait and tags are ready only as before, but for tags that joined the free list with age 0. -/
structure State.Calm (s t : State) : Prop where
  holdOff : t.tags.holdOff = s.tags.holdOff
  due : t.tags.holdOffDue = s.tags.holdOffDue
  freeList : ∃ joined, t.tags.freeList = s.tags.freeList ++ joined
  kept : ∀ x age, s.tagEntry x = .free age → t.tagEntry x = .free age
  fresh : ∀ x age, t.tagEntry x = .free age → s.tagEntry x = .free age ∨ age = 0
  waits : t.tags.waitQueue ≠ [] →
    s.tags.waitQueue ≠ [] ∨ ∀ x rest, s.tags.freeList = x :: rest → s.tagReady x = false

theorem State.Calm.of_tags {s t : State} (h : t.tags = s.tags) : s.Calm t where
  holdOff := by rw [h]
  due := by rw [h]
  freeList := ⟨[], by simp [h]⟩
  kept x age hx := by rwa [tagEntry, h]
  fresh x age hx := by rw [tagEntry, h] at hx; exact .inl hx
  waits hw := .inl (by rwa [h] at hw)

theorem State.Calm.trans {s t u : State} (h : s.Calm t) (h' : t.Calm u) : s.Calm u where
  holdOff := h'.holdOff.trans h.holdOff
  due := h'.due.trans h.due
  freeList := by
    obtain ⟨l, e⟩ := h.freeList
    obtain ⟨l', e'⟩ := h'.freeList
    exact ⟨l ++ l', by rw [e', e, List.append_assoc]⟩
  kept x age hx := h'.kept x age (h.kept x age hx)
  fresh x age hx := (h'.fresh x age hx).elim (h.fresh x age) .inr
  waits hw := by
    rcases h'.waits hw with hw | head
    · exact h.waits hw
    · by_cases hs : s.tags.waitQueue = []
      · by_cases ht : t.tags.waitQueue = []
        · refine .inr fun x rest hx => ?_
          obtain ⟨l, e⟩ := h.freeList
          by_contra ready
          rw [Bool.not_eq_false, tagReady_iff] at ready
          obtain ⟨⟨age, hx', le⟩, _⟩ := ready
          have := head x (rest ++ l) (by rw [e, hx]; rfl)
          rw [Bool.eq_false_iff] at this
          exact this ((t.tagReady_iff x).mpr ⟨⟨age, h.kept x age hx', h.holdOff ▸ le⟩, .inr ht⟩)
        · exact h.waits ht
      · exact .inl hs

/-- R73: after a calm change the head is no readier than before, unless a release at hold-off 0 asks for grants (R76). -/
theorem State.Calm.headLaw {s t : State} (h : s.Calm t) (tags : s.TagLaw) (head : s.HeadLaw) :
    t.HeadLaw ∨ t.tags.holdOff = 0 ∧ s.tags.freeList.length < t.tags.freeList.length := by
  by_cases hw : t.tags.waitQueue = []
  · exact .inl (.inl hw)
  obtain ⟨joined, hl⟩ := h.freeList
  have mem := tags.2.2.1
  -- Before the change the head of the free list was not ready, or a record waited that would have been granted.
  have before : ∀ x rest, s.tags.freeList = x :: rest → t.tagReady x = false := by
    intro x rest hx
    rw [Bool.eq_false_iff]
    intro ready
    obtain ⟨⟨age, hx', le⟩, due⟩ := (t.tagReady_iff x).mp ready
    obtain ⟨age', hx''⟩ := (mem x).mp (by simp [hx])
    obtain rfl : age = age' := by
      have := h.kept x age' hx''
      rw [hx'] at this
      exact TagEntry.free.inj this
    have ready' : s.tagReady x = true :=
      (s.tagReady_iff x).mpr ⟨⟨age, hx'', h.holdOff ▸ le⟩, .inl (h.due ▸ due.resolve_right hw)⟩
    rcases h.waits hw with hs | notReady
    · rcases head with hs' | notReady
      · exact hs hs'
      · rw [notReady x rest hx] at ready'; cases ready'
    · rw [notReady x rest hx] at ready'; cases ready'
  cases hs : s.tags.freeList with
  | cons x rest =>
    refine .inl (.inr fun y rest' hy => ?_)
    rw [hl, hs] at hy
    obtain ⟨rfl, _⟩ := List.cons.inj hy
    exact before _ rest hs
  | nil =>
    rw [hs, List.nil_append] at hl
    by_cases h0 : t.tags.holdOff = 0
    · cases joined with
      | nil => exact .inl (.inr fun y rest hy => by rw [hl] at hy; cases hy)
      | cons y rest => exact .inr ⟨h0, by simp [hl]⟩
    · refine .inl (.inr fun y rest hy => ?_)
      rw [Bool.eq_false_iff]
      intro ready
      obtain ⟨⟨age, hy', le⟩, _⟩ := (t.tagReady_iff y).mp ready
      rcases h.fresh y age hy' with hy' | rfl
      · have := (mem y).mpr ⟨age, hy'⟩
        rw [hs] at this
        cases this
      · omega

/-- Nothing but the tag table, the free list and the stranded count changes in the Tag Manager, and no record enters the wait
queue. -/
theorem State.DropsTags.calm {s u : State} (h : s.DropsTags u)
    (freeList : ∃ joined, u.tags.freeList = s.tags.freeList ++ joined)
    (kept : ∀ x age, s.tagEntry x = .free age → u.tagEntry x = .free age) : s.Calm u := by
  have fresh := h.ages
  obtain ⟨_, _, _, _, _, hu⟩ := h.frame
  exact ⟨by rw [hu], by rw [hu], freeList, kept, fresh, fun hw => .inl (by rwa [hu] at hw)⟩

theorem State.calm_releaseTag (s : State) (x : Tag) : s.Calm (s.releaseTag x) := by
  refine (s.dropsTags_releaseTag x).calm ?_ fun y age hy => releaseTag_free_other hy x
  cases hx : s.tagEntry x with
  | free age => rw [releaseTag_free hx]; exact ⟨[], by simp⟩
  | held b => rw [releaseTag_held hx]; exact ⟨[x], rfl⟩
  | stranded q => rw [releaseTag_stranded hx]; exact ⟨[x], rfl⟩

theorem State.calm_releaseTags (l : List Tag) (s : State) : s.Calm (l.foldl releaseTag s) := by
  induction l generalizing s with
  | nil => exact .of_tags rfl
  | cons x l ih => exact (s.calm_releaseTag x).trans (ih _)

theorem State.calm_strandTag {s : State} {b : BindingNo} {x : Tag} (h : s.tagEntry x = .held b) (q : Byte) :
    s.Calm (s.strandTag b x q) := by
  refine (s.dropsTags_strandTag b x q).calm ⟨[], by rw [strandTag_eq]; simp⟩ fun y age hy => ?_
  have table : (s.strandTag b x q).tags.table = s.tags.table.set x (.stranded q) := by rw [strandTag_eq]; rfl
  rw [tagEntry_set table, if_neg fun e => ?_, hy]
  rw [e, h] at hy
  cases hy

theorem State.calm_leaveWaitQueue (s : State) (b : BindingNo) : s.Calm (s.leaveWaitQueue b) where
  holdOff := rfl
  due := rfl
  freeList := ⟨[], by simp⟩
  kept _ _ h := h
  fresh _ _ h := .inl h
  waits hw := .inl fun e => hw (by simp [e])

/-! ### Sequences of moves -/

/-- One move that is calm where the laws hold. -/
def State.CalmMove (P : Premises) (s t : State) : Prop := s.Move P t ∧ (s.Tied P → s.Calm t)

/-- The states that a sequence of calm moves leads to. -/
def State.Leads (P : Premises) : State → State → Prop := Relation.ReflTransGen (State.CalmMove P)

theorem State.Reaches.refl (s : State) : s.Reaches P s := Relation.ReflTransGen.refl

theorem State.Reaches.trans {s t u : State} (h : s.Reaches P t) (h' : t.Reaches P u) : s.Reaches P u :=
  Relation.ReflTransGen.trans h h'

theorem State.Move.reaches {s t : State} (m : s.Move P t) : s.Reaches P t := Relation.ReflTransGen.single m

theorem State.Leads.refl (s : State) : s.Leads P s := Relation.ReflTransGen.refl

theorem State.Leads.trans {s t u : State} (h : s.Leads P t) (h' : t.Leads P u) : s.Leads P u :=
  Relation.ReflTransGen.trans h h'

theorem State.Leads.of_eq {s t : State} (h : t = s) : s.Leads P t := by rw [h]; exact .refl s

theorem State.Leads.reaches {s t : State} (h : s.Leads P t) : s.Reaches P t :=
  Relation.ReflTransGen.mono (r := CalmMove P) (fun _ _ m => m.1) _ _ h

theorem State.Leads.calm {s t : State} (h : s.Leads P t) (began : P.notice ∧ P.tags) (hn : s.NoticeLaw)
    (ht : s.TagLaw) : s.Calm t := by
  have : s.Calm t ∧ t.NoticeLaw ∧ t.TagLaw := by
    induction h with
    | refl => exact ⟨.of_tags rfl, hn, ht⟩
    | tail _ m ih =>
      obtain ⟨calm, hn, ht⟩ := ih
      exact ⟨calm.trans (m.2 ⟨began, hn, ht⟩), m.1.noticeLaw began.1 hn, m.1.tagLaw began hn ht⟩
  exact this.1

/-- A move that leaves the Tag Manager alone. -/
theorem State.Move.leads {s t : State} (m : s.Move P t) (tags : t.tags = s.tags) : s.Leads P t :=
  Relation.ReflTransGen.single ⟨m, fun _ => .of_tags tags⟩

theorem State.Move.leads_of_calm {s t : State} (m : s.Move P t) (calm : s.Tied P → s.Calm t) : s.Leads P t :=
  Relation.ReflTransGen.single ⟨m, calm⟩

/-! ### Changes that keep a record on its lists -/

theorem BindingRecord.Stays.refl (cs : Vector PolicyClass 4) (r : BindingRecord) : r.Stays cs r := {}

theorem BindingRecord.Stays.trans {cs : Vector PolicyClass 4} {r r' r'' : BindingRecord} (h : r.Stays cs r')
    (h' : r'.Stays cs r'') : r.Stays cs r'' where
  toKeeps := h.toKeeps.trans h'.toKeeps
  tag := h'.tag.trans h.tag
  inFlight := h'.inFlight.trans h.inFlight
  waits := h'.waits.trans h.waits
  key ha := by
    obtain ⟨ha', e'⟩ := h'.key ha
    obtain ⟨ha, e⟩ := h.key ha'
    exact ⟨ha, e'.trans e⟩
  owed hp := (h'.owed (h.phase hp)).trans (h.owed hp)
  outstanding hp := (h'.outstanding (h.phase hp)).trans (h.outstanding hp)
  phase := h'.phase ∘ h.phase
  holding := h'.holding ∘ h.holding
  tagged := h'.tagged ∘ h.tagged
  flight hp := h'.flight (h.phase hp) ∘ h.flight hp

section
variable (cs : Vector PolicyClass 4) (r : BindingRecord) (c : FrameClose)

/-- R38: the gap and the last frame number. -/
theorem BindingRecord.stays_noteFrame : r.Stays cs (r.noteFrame c) where
  range := fun ⟨h1, h2, h3, h4, h5, h6, h7⟩ => ⟨h1, h2, h3, h4, h5, h6, by
    show (if r.isGap c then satSucc r.gaps else r.gaps) ≤ counterMax
    split
    · exact satSucc_le _
    · exact h7⟩

theorem BindingRecord.stays_countBad : r.Stays cs (r.countBad c) := by
  unfold countBad
  split
  · exact .refl cs r
  · exact { range := fun ⟨h1, h2, h3, h4, h5, _, h7⟩ => ⟨h1, h2, h3, h4, h5, satSucc_le _, h7⟩ }

theorem BindingRecord.stays_countWithheld : r.Stays cs r.countWithheld where
  range := fun ⟨h1, h2, h3, h4, _, h6⟩ => ⟨h1, h2, h3, h4, satSucc_le _, h6⟩

theorem BindingRecord.stays_clearCounters : r.Stays cs r.clearCounters where
  range := fun ⟨h1, h2, h3, _⟩ => ⟨h1, h2, h3, Nat.zero_le _, Nat.zero_le _, Nat.zero_le _, Nat.zero_le _⟩

/-- Table 3-B: a good close brings a geometry of 1 to 96 cells (R36). -/
theorem BindingRecord.stays_buildRun (hc : 1 ≤ c.geometry.cells ∧ c.geometry.cells ≤ Config.maxFrameCells) :
    r.Stays cs (r.buildRun c) := by
  unfold buildRun
  split
  · exact { range := fun ⟨_, h⟩ => ⟨by split <;> simp [Config.maxRun], h⟩ }
  · exact {
      range := fun ⟨_, h⟩ => ⟨by simp [Config.maxRun], h⟩
      bounds := fun _ ⟨h1, h2, _⟩ => ⟨h1, h2, fun g hg => by cases hg; exact hc⟩ }

theorem BindingRecord.stays_run_zero : r.Stays cs { r with run := 0 } where
  range := fun ⟨_, h⟩ => ⟨Nat.zero_le _, h⟩

theorem BindingRecord.stays_consecutiveBad {n : Nat} (hn : n ≤ Config.maxRun) :
    r.Stays cs { r with consecutiveBad := n } where
  range := fun ⟨h1, _, h⟩ => ⟨h1, hn, h⟩

theorem BindingRecord.stays_faults {n : Nat} (hn : n ≤ Config.maxFaults) : r.Stays cs { r with faults := n } where
  range := fun ⟨h1, h2, _, h⟩ => ⟨h1, h2, hn, h⟩

/-- R16, R17: a running lease starts afresh. -/
theorem BindingRecord.stays_lease {x : ClassNo} (runs : r.state.leaseRuns = true) :
    r.Stays cs { r with lease := some cs[x].leaseLength } where
  bounds := fun hc ⟨_, h⟩ => ⟨fun n hn => by cases hn; exact (hc x).2.2.2.2, h⟩
  lease _ := runs.symm

theorem BindingRecord.stays_renew {x : ClassNo} : r.Stays cs { r with lease := r.lease.map fun _ => cs[x].leaseLength } where
  bounds := fun hc ⟨_, h⟩ => ⟨fun n hn => by
    obtain ⟨_, _, rfl⟩ := Option.map_eq_some_iff.mp hn
    exact (hc x).2.2.2.2, h⟩
  lease h := by simpa [LeaseFits] using h

/-- R168: raising a reason clears none. -/
theorem State.stays_raise (s : State) (mask : BitVec 5) :
    r.Stays cs { r with reasons := s.reasonsAfter r.reasons mask } where
  reason h hs := by
    have keep : ∀ x m : BitVec 5, x &&& RecordReason.retired.mask ≠ 0#5 →
        (x ||| m) &&& RecordReason.retired.mask ≠ 0#5 := by decide
    show s.reasonsAfter r.reasons mask &&& RecordReason.retired.mask ≠ 0#5
    unfold reasonsAfter
    split
    · exact h hs
    · exact keep _ _ (h hs)

end

/-! ### Sequences of moves: leases, reasons and the rest of the part -/

theorem State.leads_updateRecord {s : State} {b : BindingNo} {f : BindingRecord → BindingRecord}
    (h : (s.record b).Stays s.classes (f (s.record b))) : s.Leads P (s.updateRecord b f) := (Move.stay b _ h).leads rfl

theorem State.leads_putRecord {s : State} {b : BindingNo} {r : BindingRecord}
    (h : (s.record b).Stays s.classes r) : s.Leads P (s.putRecord b r) := (Move.stay b _ h).leads rfl

/-- Nothing that the laws of records and lists read changes. -/
theorem State.leads_part {s t : State} (lists : s.SameLists t) (keeps : s.PartKeeps t) (tags : t.tags = s.tags := by rfl) :
    s.Leads P t := (Move.part lists keeps).leads tags

theorem State.leads_raisePart (s : State) (r : PartReason) : s.Leads P (s.raisePart r) := by
  rw [raisePart_eq]
  exact leads_part {} {}

theorem State.leads_returnCells (s : State) (n : Nat) : s.Leads P (s.returnCells n) := leads_part {} {}

theorem State.leads_post (s : State) (r : Result) (data : List Byte) : s.Leads P (s.post r data) := leads_part {} {}

theorem State.leads_raiseRecord (s : State) (b : BindingNo) (r : RecordReason) : s.Leads P (s.raiseRecord b r) := by
  rw [raiseRecord_eq]
  exact leads_putRecord (s.stays_raise _ _ _)

theorem State.leads_startLease {s : State} {b : BindingNo} (runs : (s.record b).state.leaseRuns = true) :
    s.Leads P (s.startLease b) := leads_updateRecord ((s.record b).stays_lease s.classes runs)

theorem State.leads_renewLease (s : State) (b : BindingNo) : s.Leads P (s.renewLease b) := by
  rw [renewLease_eq]
  exact leads_putRecord ((s.record b).stays_renew s.classes)

/-- R27, R43: a link changes within its ranges. -/
theorem State.leads_updateFeeder {s : State} {l : LinkNo} {f : FeederLink → FeederLink}
    (counts : (s.feeder l).inRange → (f (s.feeder l)).inRange)
    (frame : ∀ x, (f (s.feeder l)).frame = some x →
      (s.feeder l).frame = some x ∨ x.cellsReceived ≤ Config.maxFrameCells + 1) :
    s.Leads P (s.updateFeeder l f) := by
  refine leads_part {} {
    counts := fun ⟨h1, h2⟩ => ⟨fun m => ?_, h2⟩
    settings := fun ⟨h1, h2, h3⟩ => ⟨h1, fun m x hx => ?_, h3⟩ }
  · by_cases e : m = l
    · rw [e, feeder_updateFeeder_self]; exact counts (h1 l)
    · rw [feeder_updateFeeder_ne s f e]; exact h1 m
  · by_cases e : m = l
    · rw [e, feeder_updateFeeder_self] at hx
      exact (frame x hx).elim (h2 l x) id
    · rw [feeder_updateFeeder_ne s f e] at hx
      exact h2 m x hx

/-! ### Notices owed, and the end of a record -/

/-- R55, R99: a notice becomes owed, or waits for the session. -/
theorem State.leads_oweOrAwait {s : State} {b : BindingNo} (state : (s.record b).state.notifies = true)
    (phase : (s.record b).phase.unlisted = true) (flight : (s.record b).FlightFits → (s.record b).inFlight = 0) :
    s.Leads P (s.oweOrAwait b) := by
  unfold oweOrAwait
  split
  · exact (Move.owe b state phase flight).leads rfl
  · obtain ⟨h1, h2⟩ := (NoticePhase.unlisted_iff _).mp phase
    exact leads_updateRecord {
      owed := fun _ => by simp [h1]
      outstanding := fun _ => by simp [h2]
      phase := fun _ _ => (RecordState.notifies_iff _).mp state
      flight := fun _ hf => BindingRecord.fits_of_nothing_inFlight (flight hf) }

/-- Where a record's tag is found, it is given up. -/
theorem State.givesUp_releaseTagOf (s : State) (b : BindingNo) (p : Prop) : s.GivesUp b p (s.releaseTagOf b) := by
  unfold releaseTagOf
  cases h : (s.record b).tag with
  | none => exact .nothing fun _ => h
  | some x => exact .release x fun _ => h

theorem State.GivesUp.calm {s u : State} {b : BindingNo} {p : Prop} (h : s.GivesUp b p u) (hp : p) (agree : s.TagsAgree) :
    s.Calm u := by
  cases h with
  | nothing => exact .of_tags rfl
  | release x => exact s.calm_releaseTag x
  | strand x q tag => exact calm_strandTag ((agree.1 x b).mpr (tag hp)) q

/-- R6, R119: a record ends. -/
theorem State.leads_finish {s s' u : State} {b : BindingNo} {r : BindingRecord}
    (wait : s' = s.leaveWaitQueue b ∨ s' = s ∧ (P.notice → (s.record b).state ≠ .tagWait))
    (phase : P.notice → (s.record b).PhaseFits → (s.record b).phase.unlisted = true)
    (flight : P.notice → (s.record b).PhaseFits → (s.record b).FlightFits → (s.record b).inFlight = 0)
    (tag : s'.GivesUp b (s.Tied P) u) (ended : r.Ended) (keeps : (s.record b).Keeps s.classes r) :
    s.Leads P (u.putRecord b r) := by
  refine (Move.finish b r wait phase flight tag ended keeps).leads_of_calm fun laws => ?_
  have agree := (s.tagLaw_iff.mp laws.2.2).1
  have before : s.Calm s' ∧ s'.TagsAgree := by
    rcases wait with rfl | ⟨rfl, _⟩
    · exact ⟨s.calm_leaveWaitQueue b, agree.congr (fun _ => rfl) rfl rfl rfl⟩
    · exact ⟨.of_tags rfl, agree⟩
  exact before.1.trans ((tag.calm laws before.2).trans (.of_tags rfl))

/-- R119: a record completes its retirement. -/
theorem State.leads_complete {s s' u : State} {b : BindingNo}
    (wait : s' = s.leaveWaitQueue b ∨ s' = s ∧ (P.notice → (s.record b).state ≠ .tagWait))
    (phase : P.notice → (s.record b).PhaseFits → (s.record b).phase.unlisted = true)
    (flight : P.notice → (s.record b).PhaseFits → (s.record b).FlightFits → (s.record b).inFlight = 0)
    (tag : s'.GivesUp b (s.Tied P) u) : s.Leads P (u.completeRetirement b) := by
  rw [completeRetirement_eq]
  exact leads_finish wait phase flight tag (u.ended_retiredOrFree _)
    ((BindingRecord.keeps_untag _ ((finish_frame wait tag).2.1 b)).trans (u.keeps_retiredOrFree _ _))

/-- What a record that waits for no notice asks of its end. -/
theorem BindingRecord.PhaseFits.unlisted_of_state {r : BindingRecord} (h : r.PhaseFits) (hs : r.state.notifies = false) :
    r.phase.unlisted = true := by rw [h.phase_eq hs]; rfl

theorem BindingRecord.FlightFits.inFlight_of_state {r : BindingRecord} (h : r.FlightFits)
    (hs : r.state = .free ∨ r.state = .candidate ∨ r.state = .tagWait ∨ r.state = .retired) : r.inFlight = 0 :=
  h.inFlight_eq (by rcases hs with e | e | e | e <;> simp [e]) (by rcases hs with e | e | e | e <;> simp [e])

/-- R77, R119: release and completion of a record whose notice phase is on no list. -/
theorem State.leads_releaseAndComplete {s : State} {b : BindingNo} (state : P.notice → (s.record b).state ≠ .tagWait)
    (phase : P.notice → (s.record b).PhaseFits → (s.record b).phase.unlisted = true)
    (flight : P.notice → (s.record b).PhaseFits → (s.record b).FlightFits → (s.record b).inFlight = 0) :
    s.Leads P (s.releaseAndComplete b) :=
  leads_complete (.inr ⟨rfl, state⟩) phase flight (s.givesUp_releaseTagOf b _)

/-- R61, R63: a CANDIDATE or TAG_WAIT record lapses. -/
theorem State.leads_lapse {s : State} {b : BindingNo} (state : (s.record b).state = .candidate ∨ (s.record b).state = .tagWait) :
    s.Leads P (s.lapse b) :=
  leads_finish (r := .free) (.inl rfl)
    (fun _ hp => hp.unlisted_of_state (by rcases state with e | e <;> rw [e] <;> rfl))
    (fun _ _ hf => hf.inFlight_of_state (by tauto))
    ((s.leaveWaitQueue b).givesUp_releaseTagOf b _) ⟨.inl ⟨rfl, rfl⟩, rfl, rfl, rfl⟩ (BindingRecord.keeps_free ..)

/-- R120: a RETIRED record goes FREE; it has no tag to give up. -/
theorem State.leads_goFree {s : State} {b : BindingNo} (state : (s.record b).state = .retired) : s.Leads P (s.goFree b) :=
  leads_finish (r := .free) (.inr ⟨rfl, by simp [state]⟩) (fun _ hp => hp.unlisted_of_state (by rw [state]; rfl))
    (fun _ _ hf => hf.inFlight_of_state (by tauto))
    (.nothing fun ⟨_, _, ht⟩ => ((s.tagLaw_iff.mp ht).2.1 b).1 (by rw [state]; rfl))
    ⟨.inl ⟨rfl, rfl⟩, rfl, rfl, rfl⟩ (BindingRecord.keeps_free ..)

/-! ### Retirement -/

/-- R116: the drain end. -/
theorem State.leads_drainEnd {s : State} {b : BindingNo} (state : (s.record b).state = .retiring)
    (phase : (s.record b).phase = .drain) (flight : (s.record b).inFlight = 0) : s.Leads P (s.drainEnd b) := by
  have unlisted : (s.record b).phase.unlisted = true := by rw [phase]; rfl
  unfold drainEnd
  split
  · exact (Move.owe b (by rw [state]; rfl) unlisted fun _ => flight).leads rfl
  · split
    · exact leads_releaseAndComplete (by simp [state]) (fun _ _ => unlisted) fun _ _ _ => flight
    · exact leads_updateRecord {
        owed := fun _ => by simp [phase]
        outstanding := fun _ => by simp [phase]
        phase := fun _ _ => .inr state
        flight := fun _ _ => BindingRecord.fits_of_nothing_inFlight flight }

/-- R137 step 4. -/
theorem State.leads_moveDrained (s : State) (b : BindingNo) : s.Leads P (s.moveDrained b) := by
  unfold moveDrained
  split
  next h =>
    split
    next state => exact leads_drainEnd state h.1 h.2
    next state => exact leads_oweOrAwait (by rw [state]; rfl) (by rw [h.1]; rfl) fun _ => h.2
    next => exact .refl s
  next => exact .refl s

/-- R3, R16, R115: entry to RETIRING from ANNOUNCING, with the notice where it is. -/
theorem BindingRecord.stays_retiring (cs : Vector PolicyClass 4) {r : BindingRecord} (state : r.state = .announcing)
    (cause : RetireCause) (pending : Bool) : r.Stays cs { r.retiring cause with bindPending := pending } where
  range := fun ⟨_, h⟩ => ⟨Nat.zero_le _, h⟩
  bounds := fun _ ⟨_, h, _⟩ => ⟨by simp [retiring], h, by simp [retiring]⟩
  lease _ := rfl
  reason _ h := by cases h
  waits := by simp [retiring, state]
  key _ := ⟨by rw [state]; rfl, rfl⟩
  phase _ _ := .inr rfl
  holding := fun ⟨_, h, _⟩ => ⟨by simp [retiring], fun _ => h (.inr (by rw [state]; rfl)), by simp [retiring]⟩
  tagged := fun ⟨_, h⟩ => ⟨by simp [retiring, RecordState.lacksTag], fun _ => h (by rw [state]; rfl)⟩
  flight _ hf h0 := by
    have : r.phase = .drain := by simpa [state] using hf h0
    exact .inr (.inr (.inr ⟨.inr rfl, this⟩))

/-- The states in which a record's frames are forwarded or withheld for requalification (Table 1-D). -/
def RecordState.established (x : RecordState) : Prop := x = .live ∨ x = .suspended ∨ x = .silent

theorem RecordState.established.notifies {x : RecordState} (h : x.established) : x.notifies = false := by
  rcases h with rfl | rfl | rfl <;> rfl

theorem RecordState.established.active {x : RecordState} (h : x.established) : x.active = true := by
  rcases h with rfl | rfl | rfl <;> rfl

theorem RecordState.established.holdsTag {x : RecordState} (h : x.established) : x.holdsTag = true := by
  rcases h with rfl | rfl | rfl <;> rfl

theorem RecordState.established.not_tagWait {x : RecordState} (h : x.established) : x ≠ .tagWait := by
  rcases h with rfl | rfl | rfl <;> simp

/-- R115: entry to RETIRING from LIVE, SUSPENDED or SILENT. -/
theorem BindingRecord.stays_retiringDrain (cs : Vector PolicyClass 4) {r : BindingRecord} (state : r.state.established)
    (cause : RetireCause) : r.Stays cs { r.retiring cause with consecutiveBad := 0, phase := .drain } where
  range := fun ⟨_, _, h⟩ => ⟨Nat.zero_le _, Nat.zero_le _, h⟩
  bounds := fun _ ⟨_, h, _⟩ => ⟨by simp [retiring], h, by simp [retiring]⟩
  lease _ := rfl
  reason _ h := by cases h
  waits := by simp [retiring, state.not_tagWait]
  key _ := ⟨state.active, rfl⟩
  owed hp := by simp [hp.phase_eq state.notifies]
  outstanding hp := by simp [hp.phase_eq state.notifies]
  phase _ _ := .inr rfl
  holding := fun ⟨_, h, _⟩ => ⟨by simp [retiring], fun _ => h (.inr state.holdsTag), by simp [retiring]⟩
  tagged := fun ⟨_, h⟩ => ⟨by simp [retiring, RecordState.lacksTag], fun _ => h state.holdsTag⟩
  flight _ _ _ := .inr (.inr (.inr ⟨.inr rfl, rfl⟩))

/-- The state with the notice phase of one record overwritten. -/
def State.rephased (s : State) (b : BindingNo) (p : NoticePhase) : State := s.putRecord b { s.record b with phase := p }

theorem State.putRecord_comm (s : State) {b c : BindingNo} (h : b ≠ c) (r r' : BindingRecord) :
    (s.putRecord b r).putRecord c r' = (s.putRecord c r').putRecord b r := by
  simp only [putRecord]
  rw [Vector.set_comm _ _ (Fin.val_ne_of_ne h)]

theorem State.rephased_untag (u : State) (b c : BindingNo) (p : NoticePhase) :
    (u.rephased b p).putRecord c { (u.rephased b p).record c with tag := none } =
      (u.putRecord c { u.record c with tag := none }).rephased b p := by
  unfold rephased
  by_cases e : b = c
  · subst e
    simp only [record_putRecord_self, putRecord_putRecord]
  · rw [record_putRecord_ne _ _ e, record_putRecord_ne _ _ (Ne.symm e)]
    exact u.putRecord_comm e _ _

/-- A release reads no notice phase. -/
theorem State.rephased_releaseTag (s : State) (b : BindingNo) (p : NoticePhase) (x : Tag) :
    (s.rephased b p).releaseTag x = (s.releaseTag x).rephased b p := by
  have same : (s.rephased b p).tagEntry x = s.tagEntry x := rfl
  cases hx : s.tagEntry x with
  | free age => rw [releaseTag_free hx, releaseTag_free (same.trans hx)]
  | stranded q => rw [releaseTag_stranded hx, releaseTag_stranded (same.trans hx)]; rfl
  | held c =>
    rw [releaseTag_held hx, releaseTag_held (same.trans hx)]
    exact rephased_untag { s with tags := s.tags.releasing x } b c p

/-- Completion overwrites the notice phase. -/
theorem State.rephased_completeRetirement (s : State) (b : BindingNo) (p : NoticePhase) :
    (s.rephased b p).completeRetirement b = s.completeRetirement b := by
  simp only [completeRetirement_eq, rephased, record_putRecord_self, putRecord_putRecord]
  rfl

theorem State.rephased_releaseAndComplete (s : State) (b : BindingNo) (p : NoticePhase) :
    (s.rephased b p).releaseAndComplete b = s.releaseAndComplete b := by
  have tag : ((s.rephased b p).record b).tag = (s.record b).tag := by rw [rephased, record_putRecord_self]
  simp only [releaseAndComplete, releaseTagOf, tag]
  cases (s.record b).tag with
  | none => exact s.rephased_completeRetirement b p
  | some x => simp only [rephased_releaseTag, rephased_completeRetirement]

/-- R110: retirement begins before the record was announced. -/
theorem State.leads_retireBeforeAnnouncing {s : State} {b : BindingNo}
    (state : (s.record b).state = .candidate ∨ (s.record b).state = .tagWait) (cause : RetireCause) :
    s.Leads P (s.retireBeforeAnnouncing b cause) := by
  have first : s.Leads P (s.updateRecord b fun r => { r with cause := some cause }) := leads_updateRecord {}
  refine first.trans (leads_complete (.inl rfl) ?_ ?_ (givesUp_releaseTagOf _ b _)) <;> rw [record_updateRecord_self]
  · exact fun _ hp => hp.unlisted_of_state (by rcases state with e | e <;> simp only [e] <;> rfl)
  · exact fun _ _ hf => hf.inFlight_of_state (.inr (by tauto))

/-- R111 to R113: retirement begins in ANNOUNCING. -/
theorem State.leads_retireAnnouncing {s : State} {b : BindingNo} (state : (s.record b).state = .announcing)
    (cause : RetireCause) : s.Leads P (s.retireAnnouncing b cause) := by
  have retires (pending : Bool) : (s.record b).Stays s.classes { (s.record b).retiring cause with bindPending := pending } :=
    BindingRecord.stays_retiring _ state cause pending
  unfold retireAnnouncing
  split
  · exact leads_updateRecord (retires true)
  next phase =>
    split
    · exact leads_updateRecord (retires (s.record b).bindPending)
    · obtain ⟨u, hu⟩ : ∃ u, u = s.updateRecord b fun r => { r with cause := some cause } := ⟨_, rfl⟩
      have record : u.record b = { s.record b with cause := some cause } := by rw [hu, record_updateRecord_self]
      have first : s.Leads P u := hu ▸ leads_updateRecord {}
      have second : u.Leads P ((u.leaveOwed b).rephased b .none) := (Move.leaveOwed b (by rw [record, phase])).leads rfl
      have self : ((u.leaveOwed b).rephased b .none).record b = { u.record b with phase := .none } :=
        record_putRecord_self ..
      have third : ((u.leaveOwed b).rephased b .none).Leads P (((u.leaveOwed b).rephased b .none).releaseAndComplete b) := by
        refine leads_releaseAndComplete ?_ ?_ ?_ <;> rw [self, record]
        · simp [state]
        · exact fun _ _ => rfl
        · exact fun _ _ hf => hf.inFlight_eq (by simp [state]) (by simp)
      rw [rephased_releaseAndComplete] at third
      simp only [← hu]
      exact (first.trans second).trans third
  · exact leads_updateRecord (retires (s.record b).bindPending)
  · exact leads_updateRecord (retires (s.record b).bindPending)
  · exact leads_updateRecord (retires (s.record b).bindPending)

/-- R115: retirement begins in LIVE, SUSPENDED or SILENT. -/
theorem State.leads_retireForwarding {s : State} {b : BindingNo} (state : (s.record b).state.established)
    (cause : RetireCause) : s.Leads P (s.retireForwarding b cause) :=
  (leads_updateRecord (BindingRecord.stays_retiringDrain _ state cause)).trans (leads_moveDrained _ b)

/-- R109: retirement begins. -/
theorem State.leads_beginRetirement (s : State) (b : BindingNo) (cause : RetireCause) :
    s.Leads P (s.beginRetirement b cause) := by
  unfold beginRetirement
  split
  next state => exact leads_retireBeforeAnnouncing (.inl state) cause
  next state => exact leads_retireBeforeAnnouncing (.inr state) cause
  next state => exact leads_retireAnnouncing state cause
  next state => exact leads_retireForwarding (.inl state) cause
  next state => exact leads_retireForwarding (.inr (.inl state)) cause
  next state => exact leads_retireForwarding (.inr (.inr state)) cause
  all_goals exact .refl s

/-! ### Admission and grants -/

/-- A record on entry to ANNOUNCING with a tag and a geometry, before its notice is owed (R55). -/
def BindingRecord.admitted (r : BindingRecord) (x : Tag) (g : Option Geometry) : BindingRecord :=
  { r with state := .announcing, tag := some x, geometry := g, lease := none, run := 0, trial := none, phase := .none }

theorem BindingRecord.keeps_admitted (cs : Vector PolicyClass 4) (r : BindingRecord) (x : Tag) {g : Option Geometry}
    (hg : g = r.geometry ∨ g = r.trial) : r.Keeps cs (r.admitted x g) where
  range := fun ⟨_, h⟩ => ⟨Nat.zero_le _, h⟩
  bounds := fun _ ⟨_, h2, h3⟩ => ⟨by simp [admitted], by rcases hg with rfl | rfl; exacts [h2, h3], by simp [admitted]⟩
  lease _ := rfl
  reason _ h := by cases h

/-- R55: the entry to ANNOUNCING is the admitted record's notice becoming owed, or waiting for the session. -/
theorem State.oweOrAwait_admitted (s : State) (b : BindingNo) (r : BindingRecord) (x : Tag) (g : Option Geometry) :
    (s.putRecord b (r.admitted x g)).oweOrAwait b = { s with notice := { s.notice with owed := s.owedWith b } }.putRecord b
      (s.announcedAs { r with geometry := g, trial := none } x) := by
  rw [oweOrAwait_eq, record_putRecord_self]
  exact putRecord_putRecord { s with notice := { s.notice with owed := s.owedWith b } } b (r.admitted x g) _

theorem State.leads_oweAdmitted (s : State) (b : BindingNo) {r : BindingRecord} (x : Tag) (g : Option Geometry)
    (flight : (r.admitted x g).FlightFits → r.inFlight = 0) :
    (s.putRecord b (r.admitted x g)).Leads P ((s.putRecord b (r.admitted x g)).oweOrAwait b) := by
  refine leads_oweOrAwait ?_ ?_ ?_ <;> rw [record_putRecord_self]
  · rfl
  · rfl
  · exact flight

/-- A record in ANNOUNCING without a notice phase has nothing in flight. -/
theorem BindingRecord.FlightFits.inFlight_of_admitted {r : BindingRecord} {x : Tag} {g : Option Geometry}
    (h : (r.admitted x g).FlightFits) : r.inFlight = 0 :=
  h.inFlight_eq (by simp [admitted]) (by simp [admitted])

/-- What a close may do to the Tag Manager: it is calm, or it takes the head of the free list while no record waits. -/
inductive State.Handles (P : Premises) (s t : State) : Prop
  | calm (h : s.Leads P t)
  | takes (h : s.Reaches P t) (wait : t.tags.waitQueue = []) (freeList : t.tags.freeList.length ≤ s.tags.freeList.length)

theorem State.Handles.reaches {s t : State} (h : s.Handles P t) : s.Reaches P t := by
  cases h with
  | calm h => exact h.reaches
  | takes h => exact h

/-- Moves that leave the Tag Manager alone may come first. -/
theorem State.Leads.handles {s t u : State} (h : s.Leads P t) (tags : t.tags = s.tags) (h' : t.Handles P u) : s.Handles P u := by
  cases h' with
  | calm h' => exact .calm (h.trans h')
  | takes h' wait freeList => exact .takes (h.reaches.trans h') wait (by rwa [tags] at freeList)

theorem State.oweOrAwait_tags (s : State) (b : BindingNo) : (s.oweOrAwait b).tags = s.tags := by rw [oweOrAwait_eq]; rfl

/-- R53, R54: completion of admission. -/
theorem State.handles_completeAdmission {s : State} {b : BindingNo} (state : (s.record b).state = .candidate)
    (trial : (s.record b).trial.isSome) : s.Handles P (s.completeAdmission b) := by
  have zero {r' : BindingRecord} (inFlight : r'.inFlight = (s.record b).inFlight) (hf : (s.record b).FlightFits) :
      r'.FlightFits := BindingRecord.fits_of_nothing_inFlight (inFlight.trans (hf.inFlight_of_state (by tauto)))
  cases tag : (s.record b).tag with
  | some x =>
    have stays : (s.record b).Stays s.classes ((s.record b).admitted x (s.record b).trial) := {
      toKeeps := (s.record b).keeps_admitted _ x (.inr rfl)
      tag := tag.symm
      waits := by simp [BindingRecord.admitted, state]
      key := fun _ => ⟨by rw [state]; rfl, rfl⟩
      owed := fun hp => by simp [BindingRecord.admitted, hp.phase_eq (by rw [state]; rfl)]
      outstanding := fun hp => by simp [BindingRecord.admitted, hp.phase_eq (by rw [state]; rfl)]
      phase := fun _ h => absurd rfl h
      holding := fun _ => ⟨by simp [BindingRecord.admitted], fun _ => trial, by simp [BindingRecord.admitted]⟩
      tagged := fun _ => ⟨by simp [BindingRecord.admitted, RecordState.lacksTag], fun _ => rfl⟩
      flight := fun _ hf => zero rfl hf }
    rw [completeAdmission_fixed tag, ← oweOrAwait_admitted]
    exact .calm ((leads_putRecord stays).trans (leads_oweAdmitted s b x _ (·.inFlight_of_admitted)))
  | none =>
    by_cases take : ∃ x rest, s.tags.waitQueue = [] ∧ s.tags.freeList = x :: rest ∧ s.tagReady x = true
    · obtain ⟨x, rest, hq, hf, ready⟩ := take
      obtain ⟨⟨age, entry, _⟩, _⟩ := (s.tagReady_iff x).mp ready
      have move := Move.take (P := P) (s := s) b x s.tags.waitQueue ((s.record b).admitted x (s.record b).trial)
        ⟨age, entry⟩ (.inl ⟨rfl, state⟩) {
          toKeeps := (s.record b).keeps_admitted _ x (.inr rfl)
          state := .inl rfl, tag := rfl, phase := rfl, inFlight := rfl, key := rfl }
        (fun _ _ => tag)
        fun _ _ => ⟨by simp [BindingRecord.admitted], fun _ => trial, by simp [BindingRecord.admitted]⟩
      have owes := leads_oweAdmitted (P := P) { s with tags := { s.tags with
        table := s.tags.table.set x (.held b), freeList := s.tags.freeList.erase x, waitQueue := s.tags.waitQueue } } b
        (r := s.record b) x (s.record b).trial (·.inFlight_of_admitted)
      have target := move.reaches.trans owes.reaches
      rw [oweOrAwait_admitted] at target
      have erase : s.tags.freeList.erase x = rest := by simp [hf]
      rw [completeAdmission_takes tag hq hf ready]
      rw [erase] at target
      exact .takes target hq (by simp [hf])
    · have head : ∀ x rest, s.tags.waitQueue = [] → s.tags.freeList = x :: rest → s.tagReady x = false := by
        intro x rest hq hf
        by_contra ready
        exact take ⟨x, rest, hq, hf, by simpa using ready⟩
      rw [completeAdmission_waits tag head]
      refine .calm ((Move.wait b state tag trial).leads_of_calm fun _ => {
        holdOff := rfl, due := rfl, freeList := ⟨[], by simp⟩, kept := fun _ _ h => h, fresh := fun _ _ h => .inl h
        waits := fun _ => ?_ })
      by_cases hq : s.tags.waitQueue = []
      · exact .inr fun x rest => head x rest hq
      · exact .inl hq

/-- R73: one grant. -/
theorem State.reaches_grantOne {s : State} {b : BindingNo} {x : Tag} (waits : b ∈ s.tags.waitQueue)
    (ready : s.tagReady x = true) : s.Reaches P (s.grantOne b x) := by
  obtain ⟨⟨age, entry, _⟩, _⟩ := (s.tagReady_iff x).mp ready
  have state (hn : s.NoticeLaw) : (s.record b).state = .tagWait := ((s.noticeLaw_iff.mp hn).2.2.1.1 b).mpr waits
  have move := Move.take (P := P) (s := s) b x (s.tags.waitQueue.erase b) ((s.record b).admitted x (s.record b).geometry)
    ⟨age, entry⟩ (.inr ⟨waits, rfl⟩) {
      toKeeps := (s.record b).keeps_admitted _ x (.inl rfl)
      state := .inl rfl, tag := rfl, phase := rfl, inFlight := rfl, key := rfl }
    (fun hn h => by rw [state hn] at h; cases h)
    fun hn h => ⟨by simp [BindingRecord.admitted], fun _ => h.2.1 (.inl (state hn)), by simp [BindingRecord.admitted]⟩
  have owes := leads_oweAdmitted (P := P) { s with tags := { s.tags with
    table := s.tags.table.set x (.held b), freeList := s.tags.freeList.erase x
    waitQueue := s.tags.waitQueue.erase b } } b (r := s.record b) x (s.record b).geometry (·.inFlight_of_admitted)
  have target := move.reaches.trans owes.reaches
  rw [oweOrAwait_admitted] at target
  rw [grantOne_eq]
  exact target

theorem State.reaches_grantUpTo (n : Nat) (s : State) : s.Reaches P (s.grantUpTo n) := by
  induction n generalizing s with
  | zero => exact .refl s
  | succ n ih =>
    unfold grantUpTo
    split
    next b _ x _ hq _ =>
      split
      next ready => exact (reaches_grantOne (by rw [hq]; simp) ready).trans (ih _)
      next => exact .refl s
    next => exact .refl s

theorem State.reaches_grantIfReleased (s before : State) : s.Reaches P (s.grantIfReleased before) := by
  unfold grantIfReleased
  split
  · exact s.reaches_grantUpTo _
  · exact .refl s

/-- R73: enough grants leave no record waiting before a ready head. -/
theorem State.headLaw_grantUpTo (n : Nat) (s : State) (h : s.tags.waitQueue.length ≤ n) : (s.grantUpTo n).HeadLaw := by
  induction n generalizing s with
  | zero => exact .inl (List.length_eq_zero_iff.mp (Nat.le_zero.mp h))
  | succ n ih =>
    unfold grantUpTo
    split
    next b rest x _ hq hf =>
      split
      next ready =>
        refine ih _ ?_
        have : (s.grantOne b x).tags.waitQueue = rest := by rw [grantOne_eq, putRecord_tags]; simp [hq]
        rw [this]
        simpa [hq] using h
      next ready =>
        refine .inr fun y rest' hy => ?_
        rw [hf] at hy
        obtain ⟨rfl, _⟩ := List.cons.inj hy
        simpa using ready
    next none =>
      cases hq : s.tags.waitQueue with
      | nil => exact .inl hq
      | cons b rest =>
        cases hf : s.tags.freeList with
        | nil => exact .inr fun x rest' hx => by rw [hf] at hx; cases hx
        | cons x rest' => exact absurd hf (none b rest x rest' hq)

theorem State.headLaw_grantEvent (s : State) : s.grantEvent.HeadLaw := s.headLaw_grantUpTo _ le_rfl

/-- R73, R76: the grants at the end of an event, when all before them was calm. -/
theorem State.Leads.headLaw_grantIfReleased {s t : State} (h : s.Leads s.premises t) (hn : s.NoticeLaw) (ht : s.TagLaw)
    (head : s.HeadLaw) : (t.grantIfReleased s).HeadLaw := by
  unfold grantIfReleased
  split
  · exact t.headLaw_grantEvent
  next no => exact ((h.calm ⟨hn, ht⟩ hn ht).headLaw ht head).resolve_right no

theorem State.Handles.headLaw_grantIfReleased {s t : State} (h : s.Handles s.premises t) (hn : s.NoticeLaw)
    (ht : s.TagLaw) (head : s.HeadLaw) : (t.grantIfReleased s).HeadLaw := by
  cases h with
  | calm h => exact h.headLaw_grantIfReleased hn ht head
  | takes _ wait freeList => rw [grantIfReleased_of_le freeList]; exact .inl wait

/-- R73: calm moves that release nothing. -/
theorem State.Leads.headLaw {s t : State} (h : s.Leads s.premises t) (freeList : t.tags.freeList.length ≤ s.tags.freeList.length)
    (hn : s.NoticeLaw) (ht : s.TagLaw) (head : s.HeadLaw) : t.HeadLaw :=
  ((h.calm ⟨hn, ht⟩ hn ht).headLaw ht head).resolve_right fun ⟨_, lt⟩ => absurd lt (Nat.not_lt.mpr freeList)

theorem State.HeadLaw.congr {s t : State} (h : s.HeadLaw) (tags : t.tags = s.tags) : t.HeadLaw := by
  unfold HeadLaw tagReady tagEntry at *
  rwa [tags]

/-! ### Changes among LIVE, SUSPENDED and SILENT -/

section
variable (cs : Vector PolicyClass 4) {r : BindingRecord}

/-- What a record in LIVE, SUSPENDED or SILENT keeps on its way to another of these states. -/
theorem BindingRecord.stays_established {r' : BindingRecord} (state : r.state.established) (state' : r'.state.established)
    (keeps : r.Keeps cs r') (tag : r'.tag = r.tag) (inFlight : r'.inFlight = r.inFlight) (key : r'.key = r.key)
    (geometry : r'.geometry = r.geometry) (phase : r'.phase = r.phase ∨ r'.phase = .none) : r.Stays cs r' where
  toKeeps := keeps
  tag := tag
  inFlight := inFlight
  waits := by simp [state.not_tagWait, state'.not_tagWait]
  key _ := ⟨state.active, key⟩
  owed hp := by rcases phase with e | e <;> simp [e, hp.phase_eq state.notifies]
  outstanding hp := by rcases phase with e | e <;> simp [e, hp.phase_eq state.notifies]
  phase hp h := by rcases phase with e | e <;> simp [e, hp.phase_eq state.notifies] at h
  holding := fun ⟨_, h, _⟩ => ⟨fun h' => by rcases state' with e | e | e <;> simp [e] at h',
    fun _ => geometry ▸ h (.inr state.holdsTag), fun h' => by rcases state' with e | e | e <;> simp [e] at h'⟩
  tagged := fun ⟨_, h⟩ => ⟨fun h' => by rcases state' with e | e | e <;> simp [e, RecordState.lacksTag] at h',
    fun _ => tag ▸ h state.holdsTag⟩
  flight _ _ _ := by rcases state' with e | e | e <;> simp [e]

/-- R92: suspension of a LIVE record. -/
theorem BindingRecord.stays_suspend (state : r.state = .live) :
    r.Stays cs { r with state := .suspended, consecutiveBad := 0, run := 0, faults := 0, trial := none } :=
  stays_established cs (.inl state) (.inr (.inl rfl)) {
    range := fun ⟨_, _, _, h⟩ => ⟨Nat.zero_le _, Nat.zero_le _, Nat.zero_le _, h⟩
    bounds := fun _ ⟨h1, h2, _⟩ => ⟨h1, h2, by simp⟩
    lease := fun h => h.trans (by rw [state]; rfl)
    reason := fun _ h => by cases h } rfl rfl rfl rfl (.inl rfl)

/-- R103: entry to SILENT. -/
theorem BindingRecord.stays_silent (state : r.state = .live ∨ r.state = .suspended) :
    r.Stays cs { r with state := .silent, lease := none, run := 0, consecutiveBad := 0, faults := 0, trial := none } :=
  stays_established cs (by rcases state with e | e; exacts [.inl e, .inr (.inl e)]) (.inr (.inr rfl)) {
    range := fun ⟨_, _, _, h⟩ => ⟨Nat.zero_le _, Nat.zero_le _, Nat.zero_le _, h⟩
    bounds := fun _ ⟨_, h2, _⟩ => ⟨by simp, h2, by simp⟩
    lease := fun _ => rfl
    reason := fun _ h => by cases h } rfl rfl rfl rfl (.inl rfl)

/-- R86: what entry to LIVE keeps. -/
theorem BindingRecord.keeps_live (x : ClassNo) (mask : BitVec 5) : r.Keeps cs { r with
    state := .live, run := 0, consecutiveBad := 0, faults := 0, trial := none, phase := .none, announced := true
    lease := some cs[x].leaseLength, reasons := mask } where
  range := fun ⟨_, _, _, h⟩ => ⟨Nat.zero_le _, Nat.zero_le _, Nat.zero_le _, h⟩
  bounds := fun hc ⟨_, h2, _⟩ => ⟨fun n hn => by cases hn; exact (hc x).2.2.2.2, h2, by simp⟩
  lease _ := rfl
  reason _ h := by cases h

end

/-- R86: entry to LIVE, from requalification or with an answered BIND. -/
theorem State.leads_enterLive {s : State} {b : BindingNo} (state : (s.record b).state.established ∨
    (s.record b).state = .announcing ∧ (s.record b).phase = .none) : s.Leads P (s.enterLive b) := by
  rw [enterLive_eq]
  have keeps := BindingRecord.keeps_live s.classes (r := s.record b) (s.record b).cls
    (s.reasonsAfter (s.record b).reasons 0x01#5)
  rcases state with state | ⟨state, phase⟩
  · exact leads_putRecord (BindingRecord.stays_established _ state (.inl rfl) keeps rfl rfl rfl rfl (.inr rfl))
  · exact leads_putRecord {
      toKeeps := keeps
      waits := by simp [state]
      key := fun _ => ⟨by rw [state]; rfl, rfl⟩
      owed := fun _ => by simp [phase]
      outstanding := fun _ => by simp [phase]
      phase := fun _ h => absurd rfl h
      holding := fun ⟨_, h, _⟩ => ⟨by simp, fun _ => h (.inr (by rw [state]; rfl)), by simp⟩
      tagged := fun ⟨_, h⟩ => ⟨by simp [RecordState.lacksTag], fun _ => h (by rw [state]; rfl)⟩
      flight := fun _ _ _ => .inl rfl }

theorem State.leads_suspend {s : State} {b : BindingNo} (state : (s.record b).state = .live) : s.Leads P (s.suspend b) := by
  unfold suspend
  exact ((leads_updateRecord (BindingRecord.stays_suspend _ state)).trans
    (leads_startLease (by rw [record_updateRecord_self]; rfl))).trans (leads_raiseRecord _ b _)

theorem State.leads_enterSilent {s : State} {b : BindingNo}
    (state : (s.record b).state = .live ∨ (s.record b).state = .suspended) : s.Leads P (s.enterSilent b) :=
  (leads_updateRecord (BindingRecord.stays_silent _ state)).trans (leads_raiseRecord _ b _)

/-! ### Requalification -/

/-- A record on entry to ANNOUNCING from requalification, with its notice phase (R99). -/
def BindingRecord.requalified (r : BindingRecord) (p : NoticePhase) : BindingRecord :=
  { r with state := .announcing, lease := none, run := 0, trial := none, consecutiveBad := 0, faults := 0, phase := p }

theorem BindingRecord.stays_requalified (cs : Vector PolicyClass 4) {r : BindingRecord} {p : NoticePhase}
    (state : r.state.established) (phase : p.unlisted = true) (flight : r.inFlight = 0 ∨ p = .drain) :
    r.Stays cs (r.requalified p) where
  range := fun ⟨_, _, _, h⟩ => ⟨Nat.zero_le _, Nat.zero_le _, Nat.zero_le _, h⟩
  bounds := fun _ ⟨_, h2, _⟩ => ⟨by simp [requalified], h2, by simp [requalified]⟩
  lease _ := rfl
  reason _ h := by cases h
  waits := by simp [requalified, state.not_tagWait]
  key _ := ⟨state.active, rfl⟩
  owed hp := by simp [requalified, hp.phase_eq state.notifies, ((NoticePhase.unlisted_iff p).mp phase).1]
  outstanding hp := by simp [requalified, hp.phase_eq state.notifies, ((NoticePhase.unlisted_iff p).mp phase).2]
  phase _ _ := .inl rfl
  holding := fun ⟨_, h, _⟩ => ⟨by simp [requalified], fun _ => h (.inr state.holdsTag), by simp [requalified]⟩
  tagged := fun ⟨_, h⟩ => ⟨by simp [requalified, RecordState.lacksTag], fun _ => h state.holdsTag⟩
  flight _ _ h0 := by
    rcases flight with h | h
    · exact absurd h h0.ne'
    · exact .inr (.inr (.inr ⟨.inl rfl, h⟩))

theorem State.putRecord_overwrite (u : State) (b : BindingNo) (r r' r'' : BindingRecord) :
    (u.putRecord b r).putRecord b r'' = (u.putRecord b r').putRecord b r'' := by rw [putRecord_putRecord, putRecord_putRecord]

/-- R99: with nothing in flight the notice is owed or waits for the session; else it drains first. -/
theorem State.announceRequalified_eq (s : State) (b : BindingNo) : s.announceRequalified b =
    if 0 < (s.record b).inFlight then s.putRecord b ((s.record b).requalified .drain)
    else (s.putRecord b ((s.record b).requalified .none)).oweOrAwait b := by
  simp only [announceRequalified, record_updateRecord_self]
  split
  · simp only [updateRecord_eq, record_putRecord_self, putRecord_putRecord]
    rfl
  · rw [oweOrAwait_eq, oweOrAwait_eq, record_updateRecord_self, record_putRecord_self]
    exact putRecord_overwrite { s with notice := { s.notice with owed := s.owedWith b } } b _ _ _

theorem State.leads_announceRequalified {s : State} {b : BindingNo} (state : (s.record b).state.established) :
    s.Leads P (s.announceRequalified b) := by
  rw [announceRequalified_eq]
  split
  · exact leads_putRecord (BindingRecord.stays_requalified _ state rfl (.inr rfl))
  next h =>
    have zero : (s.record b).inFlight = 0 := by omega
    refine (leads_putRecord (BindingRecord.stays_requalified _ state rfl (.inl zero))).trans
      (leads_oweOrAwait ?_ ?_ ?_) <;> rw [record_putRecord_self]
    · rfl
    · rfl
    · exact fun _ => zero

/-- R97, Table 5-B: requalification on a trial geometry. -/
theorem State.leads_requalify {s : State} {b : BindingNo} (state : (s.record b).state = .suspended ∨ (s.record b).state = .silent)
    (trial : (s.record b).trial.isSome) : s.Leads P (s.requalify b) := by
  have established : (s.record b).state.established := .inr state
  simp only [requalify]
  split_ifs
  · exact leads_enterLive (.inl established)
  · exact leads_announceRequalified established
  · have reshape : (s.record b).Stays s.classes { s.record b with geometry := (s.record b).trial } := {
      bounds := fun _ ⟨h1, _, h3⟩ => ⟨h1, h3, h3⟩
      holding := fun ⟨_, _, h⟩ => ⟨fun h' => by rcases state with e | e <;> simp [e] at h', fun _ => trial, h⟩ }
    have first : s.Leads P (s.updateRecord b fun r => { r with geometry := (s.record b).trial }) := leads_updateRecord reshape
    exact (first.trans (leads_announceRequalified (by rw [record_updateRecord_self]; exact established))).trans
      (leads_raiseRecord _ b _)
  · exact leads_beginRetirement s b .geometry

/-! ### Frame closes -/

/-- R36: a good close brings a geometry of 1 to 96 cells. -/
def FrameClose.Sound (c : FrameClose) : Prop := c.good = true → 1 ≤ c.geometry.cells ∧ c.geometry.cells ≤ Config.maxFrameCells

/-- R50, R94: a good close leaves a trial geometry. -/
theorem BindingRecord.buildRun_trial (r : BindingRecord) (c : FrameClose) : (r.buildRun c).trial.isSome := by
  unfold buildRun
  split
  next h => simp [h]
  next => rfl

theorem BindingRecord.buildRun_state (r : BindingRecord) (c : FrameClose) : (r.buildRun c).state = r.state := by
  unfold buildRun; split <;> rfl

theorem BindingRecord.countBad_state (r : BindingRecord) (c : FrameClose) : (r.countBad c).state = r.state := by
  unfold countBad; split <;> rfl

theorem State.renewLease_state (s : State) (b : BindingNo) : ((s.renewLease b).record b).state = (s.record b).state := by
  rw [renewLease_eq, record_putRecord_self]

theorem State.renewLease_tags (s : State) (b : BindingNo) : (s.renewLease b).tags = s.tags := by rw [renewLease_eq]; rfl

/-- R50 to R52: a close for a CANDIDATE. -/
theorem State.handles_closeCandidate {s : State} {b : BindingNo} {c : FrameClose} (hc : c.Sound)
    (state : (s.record b).state = .candidate) : s.Handles P (s.closeCandidate b c) := by
  have renew := s.leads_renewLease (P := P) b
  have tags := s.renewLease_tags b
  rw [← s.renewLease_state b] at state
  simp only [closeCandidate]
  generalize s.renewLease b = u at *
  refine renew.handles tags ?_
  split
  · exact .calm (leads_updateRecord (BindingRecord.stays_noteFrame ..))
  · split
    next good =>
      have build : u.Leads P (u.updateRecord b fun r => (r.buildRun c).noteFrame c) :=
        leads_updateRecord ((BindingRecord.stays_buildRun _ _ _ (hc good)).trans (BindingRecord.stays_noteFrame ..))
      split
      · refine build.handles rfl (handles_completeAdmission ?_ ?_) <;> rw [record_updateRecord_self]
        · exact (BindingRecord.buildRun_state ..).trans state
        · exact BindingRecord.buildRun_trial ..
      · exact .calm build
    next =>
      exact .calm (leads_updateRecord (((BindingRecord.stays_countBad ..).trans (BindingRecord.stays_noteFrame ..)).trans
        (BindingRecord.stays_run_zero ..)))

/-- R88: a forwarded frame is counted, and ends the row of faulty ones. -/
theorem BindingRecord.stays_countForwarded (cs : Vector PolicyClass 4) (r : BindingRecord) :
    r.Stays cs { r with forwarded := satSucc r.forwarded, consecutiveBad := 0 } where
  range := fun ⟨h1, _, h3, _, h5⟩ => ⟨h1, Nat.zero_le _, h3, satSucc_le _, h5⟩

theorem State.leads_countForwarded (s : State) (b : BindingNo) :
    s.Leads P (s.updateRecord b fun r => { r with forwarded := satSucc r.forwarded, consecutiveBad := 0 }) :=
  leads_updateRecord (BindingRecord.stays_countForwarded _ _)

/-- R88: the descriptor of a forwardable close. -/
theorem State.leads_appendFrame {s : State} {b : BindingNo} (x : Tag) (c : FrameClose) (state : (s.record b).state = .live)
    (room : s.trunk.queue.length < Config.queueCapacity) : s.Leads P (s.appendFrame b x c) := by
  have append := (Move.append (P := P) b ⟨some b, x, c.cells, c.frameNumber, (s.classOf b).priority, false⟩ rfl state
    room).leads rfl
  refine append.trans ((leads_countForwarded _ b).trans (.of_eq ?_))
  simp only [appendFrame, updateRecord_eq, record_putRecord_self, putRecord_putRecord]
  rfl

/-- Table 5-A: a close for a LIVE record. -/
theorem State.leads_closeLive {s : State} {b : BindingNo} (c : FrameClose) (state : (s.record b).state = .live) :
    s.Leads P (s.closeLive b c) := by
  have first : s.Leads P ((s.renewLease b).updateRecord b (·.noteFrame c)) :=
    (s.leads_renewLease b).trans (leads_updateRecord (BindingRecord.stays_noteFrame ..))
  have live : (((s.renewLease b).updateRecord b (·.noteFrame c)).record b).state = .live := by
    rw [record_updateRecord_self]; exact (s.renewLease_state b).trans state
  have withhold (v : State) : v.Leads P (v.updateRecord b fun r => { r.countWithheld with consecutiveBad := 0 }) :=
    leads_updateRecord ((BindingRecord.stays_countWithheld ..).trans (BindingRecord.stays_consecutiveBad _ _ (Nat.zero_le _)))
  simp only [closeLive]
  generalize (s.renewLease b).updateRecord b (·.noteFrame c) = u at *
  refine first.trans ?_
  split
  · split
    next x _ _ =>
      split
      next room => exact leads_appendFrame x c live room
      next =>
        refine (((leads_returnCells u c.cells.length).trans (withhold _)).trans (leads_updateFeeder ?_ fun _ h => .inl h)).trans
          (leads_raisePart _ _)
        exact fun ⟨h1, h2, _, h⟩ => ⟨h1, h2, satSucc_le _, h⟩
    next => exact (leads_returnCells u c.cells.length).trans (withhold _)
  · have count : (u.returnCells c.cells.length).Leads P ((u.returnCells c.cells.length).updateRecord b fun r =>
        { (r.countBad c).countWithheld with consecutiveBad := min (r.consecutiveBad + 1) Config.maxRun }) :=
      leads_updateRecord (((BindingRecord.stays_countBad ..).trans (BindingRecord.stays_countWithheld ..)).trans
        (BindingRecord.stays_consecutiveBad _ _ (Nat.min_le_right _ _)))
    have counted := (leads_returnCells (P := P) u c.cells.length).trans count
    simp only [closeFaulty]
    split
    · refine counted.trans (leads_suspend ?_)
      rw [record_updateRecord_self]
      exact (BindingRecord.countBad_state ..).trans live
    · exact counted

/-- R94 to R96: a close for a SUSPENDED or SILENT record. -/
theorem State.leads_closeRequalifying {s : State} {b : BindingNo} {c : FrameClose} (hc : c.Sound)
    (state : (s.record b).state = .suspended ∨ (s.record b).state = .silent) : s.Leads P (s.closeRequalifying b c) := by
  have renew := s.leads_renewLease (P := P) b
  rw [← s.renewLease_state b] at state
  simp only [closeRequalifying]
  generalize s.renewLease b = u at *
  refine renew.trans ?_
  split
  · exact leads_updateRecord ((BindingRecord.stays_noteFrame ..).trans (BindingRecord.stays_countWithheld ..))
  · split
    next good =>
      have build : u.Leads P (u.updateRecord b fun r => ((r.buildRun c).noteFrame c).countWithheld) :=
        leads_updateRecord (((BindingRecord.stays_buildRun _ _ _ (hc good)).trans (BindingRecord.stays_noteFrame ..)).trans
          (BindingRecord.stays_countWithheld ..))
      split
      · refine build.trans (leads_requalify ?_ ?_) <;> rw [record_updateRecord_self]
        · have := BindingRecord.buildRun_state (u.record b) c
          exact this ▸ state
        · exact BindingRecord.buildRun_trial ..
      · exact build
    next =>
      have count : u.Leads P (u.updateRecord b fun r => { ((r.countBad c).noteFrame c).countWithheld with
          run := 0, faults := min (r.faults + 1) Config.maxFaults }) :=
        leads_updateRecord (((((BindingRecord.stays_countBad ..).trans (BindingRecord.stays_noteFrame ..)).trans
          (BindingRecord.stays_countWithheld ..)).trans (BindingRecord.stays_run_zero ..)).trans
            (BindingRecord.stays_faults _ _ (Nat.min_le_right _ _)))
      split
      · exact count.trans (leads_beginRetirement _ b _)
      · exact count

/-- R9: no active record holds a key that resolves to none. -/
theorem State.resolveKey_none {s : State} {k : Key} (h : s.resolveKey k = none) (b : BindingNo)
    (active : (s.record b).state.active = true) : (s.record b).key ≠ k := by
  have := List.find?_eq_none.mp h b (mem_allBindings b)
  simpa [active] using this

theorem State.lowestFree_some {s : State} {b : BindingNo} (h : s.lowestFree = some b) : (s.record b).state = .free := by
  simpa using List.find?_some h

/-- R48: the creation of a learnt record. -/
theorem State.handles_createLearnt {s : State} {b : BindingNo} {c : FrameClose} (hc : c.Sound) (good : c.good = true)
    (unknown : s.resolveKey c.key = none) (free : (s.record b).state = .free) : s.Handles P (s.createLearnt b c) := by
  obtain ⟨cls, hcls⟩ : ∃ cls, cls = (s.feeder c.key.link).defaultClass := ⟨_, rfl⟩
  obtain ⟨r, hr⟩ : ∃ r, r = { BindingRecord.learntFrom c cls with lease := some s.classes[cls].leaseLength } := ⟨_, rfl⟩
  have keeps : (s.record b).Keeps s.classes r := hr ▸ {
    range := fun _ => by simp [BindingRecord.inRange, BindingRecord.learntFrom, BindingRecord.free, Config.maxRun]
    bounds := fun hs _ => ⟨fun n hn => by cases hn; exact (hs cls).2.2.2.2,
      by simp [BindingRecord.learntFrom, BindingRecord.free],
      fun g hg => by cases hg; exact hc good⟩
    lease := fun _ => rfl
    reason := fun _ h => by cases h }
  have create : s.Leads P (s.putRecord b r) :=
    (Move.create b r free (by rw [hr]; exact resolveKey_none unknown) (by rw [hr]; rfl) (by rw [hr]; rfl) (by rw [hr]; rfl)
      (by rw [hr]; rfl) (by rw [hr]; rfl) keeps).leads rfl
  have same : (s.updateRecord b fun _ => BindingRecord.learntFrom c cls).startLease b = s.putRecord b r := by
    rw [startLease_eq, updateRecord_eq, putRecord_putRecord, record_putRecord_self, hr]
    simp only [classOf, record_putRecord_self]
    rfl
  simp only [createLearnt, ← hcls, same]
  split
  · refine create.handles rfl (handles_completeAdmission ?_ ?_) <;> rw [record_putRecord_self, hr]
    · rfl
    · rfl
  · exact .calm create

/-- R37: a close, by the state of the record its key resolves to. -/
theorem State.handles_handleClose {c : FrameClose} (hc : c.Sound) (s : State) : s.Handles P (s.handleClose c) := by
  have cells := s.leads_returnCells (P := P) c.cells.length
  unfold handleClose
  split
  next unknown =>
    unfold closeUnknown
    split
    next good =>
      rw [Bool.and_eq_true] at good
      split
      next b free => exact cells.handles rfl (handles_createLearnt hc good.1 unknown (lowestFree_some free))
      next =>
        refine .calm (cells.trans ((leads_updateFeeder ?_ fun _ h => .inl h).trans (leads_raisePart _ _)))
        exact fun ⟨h1, h2, h3, _, h⟩ => ⟨h1, h2, h3, satSucc_le _, h⟩
    next => exact .calm cells
  next b _ =>
    split
    next state => exact .calm (leads_closeLive c state)
    next state => exact cells.handles rfl (handles_closeCandidate hc state)
    next state =>
      have count (u : State) : u.Leads P (u.updateRecord b fun r => (r.countBad c).noteFrame c) :=
        leads_updateRecord ((BindingRecord.stays_countBad ..).trans (BindingRecord.stays_noteFrame ..))
      exact .calm ((cells.trans (leads_renewLease _ b)).trans (count _))
    next state =>
      exact .calm (cells.trans (leads_updateRecord (((BindingRecord.stays_countBad ..).trans
        (BindingRecord.stays_noteFrame ..)).trans (BindingRecord.stays_countWithheld ..))))
    next state => exact .calm (cells.trans (leads_closeRequalifying hc (.inl state)))
    next state => exact .calm (cells.trans (leads_closeRequalifying hc (.inr state)))
    next state =>
      have discard : (s.returnCells c.cells.length).Leads P ((s.returnCells c.cells.length).updateFeeder c.key.link fun l =>
          { l with discarded := satSucc l.discarded }) :=
        leads_updateFeeder (fun ⟨h1, h2, h3, h4, _, h⟩ => ⟨h1, h2, h3, h4, satSucc_le _, h⟩) fun _ h => .inl h
      simp only [closeRetiring]
      split
      · exact .calm ((cells.trans discard).trans (leads_updateRecord (BindingRecord.stays_countWithheld ..)))
      · exact .calm (cells.trans discard)
    next => exact .calm cells
    next => exact .calm cells

/-- R37: the close event, before its grants. -/
theorem State.handles_takeClose {c : FrameClose} (hc : c.Sound) (s : State) :
    s.Handles P ((s.updateFeeder c.key.link fun l => { l.countClose c with frame := none }).handleClose c) := by
  refine (leads_updateFeeder ?_ ?_).handles rfl (handles_handleClose hc _)
  · rintro ⟨h1, h2, h3, h⟩
    refine ⟨satSucc_le _, ?_, ?_, h⟩
    · show (if c.good then _ else _) ≤ _
      split
      · exact h2
      · exact satSucc_le _
    · show (if c.overran then _ else _) ≤ _
      split
      · exact satSucc_le _
      · exact h3
  · exact fun _ h => by cases h

theorem State.reaches_takeClose {c : FrameClose} (hc : c.Sound) (s : State) : s.Reaches P (s.takeClose c) :=
  (handles_takeClose hc s).reaches.trans (reaches_grantIfReleased _ s)

theorem State.headLaw_takeClose {c : FrameClose} (hc : c.Sound) {s : State} (hn : s.NoticeLaw) (ht : s.TagLaw)
    (head : s.HeadLaw) : (s.takeClose c).HeadLaw := (handles_takeClose hc s).headLaw_grantIfReleased hn ht head

/-! ### Answered window entries -/

/-- The entry closed, with its record's notice outstanding no longer (R157, R159, R160). -/
def State.closed (s : State) (e : WindowEntry) : State :=
  (s.removeEntry e.seq).putRecord e.binding (s.record e.binding).answered

theorem State.leads_closed {s : State} {e : WindowEntry} (entry : e ∈ s.notice.window) : s.Leads P (s.closed e) :=
  (Move.closeEntry e entry).leads rfl

theorem State.record_closed (s : State) (e : WindowEntry) :
    (s.closed e).record e.binding = (s.record e.binding).answered := record_putRecord_self ..

theorem State.closed_of_notifies {s : State} {e : WindowEntry} (h : (s.record e.binding).state.notifies = true) :
    s.closed e = (s.removeEntry e.seq).rephased e.binding .none := by
  rw [closed, BindingRecord.answered, if_pos h]
  rfl

theorem State.closed_of_not_notifies {s : State} {e : WindowEntry} (h : (s.record e.binding).state.notifies = false) :
    s.closed e = s.removeEntry e.seq := by
  rw [closed, BindingRecord.answered, if_neg (by simp [h])]
  exact putRecord_record (s.removeEntry e.seq) e.binding

/-- R154, R155: the record of a window entry has its notice on the way. -/
theorem State.NoticeLaw.entry_notifies {s : State} (h : s.NoticeLaw) {e : WindowEntry} (entry : e ∈ s.notice.window) :
    (s.record e.binding).state.notifies = true := by
  obtain ⟨_, ⟨hw, _⟩, _, _, _, hp⟩ := s.noticeLaw_iff.mp h
  have phase : (s.record e.binding).phase = .outstanding := (hw e.binding).mpr (List.mem_map.mpr ⟨e, entry, rfl⟩)
  exact (RecordState.notifies_iff _).mpr (hp _ (by simp [phase]))

/-- What an event that answers a window entry knows of its record while it ends. -/
structure State.Settled (P : Premises) (s : State) (b : BindingNo) (x : Tag) : Prop where
  notifies : P.notice → (s.record b).state.notifies = true
  phase : P.notice → (s.record b).phase = .none
  tag : P.notice → P.tags → (s.record b).tag = some x

theorem State.settled_closed {s : State} {e : WindowEntry} (entry : e ∈ s.notice.window) :
    (s.closed e).Settled s.premises e.binding e.tag := by
  have notifies (h : s.NoticeLaw) := h.entry_notifies entry
  constructor <;> intro hn
  · rw [record_closed, BindingRecord.answered, if_pos (notifies hn)]; exact notifies hn
  · rw [record_closed, BindingRecord.answered, if_pos (notifies hn)]
  · intro ht
    rw [record_closed, BindingRecord.answered, if_pos (notifies hn)]
    exact (s.tagLaw_iff.mp ht).2.2 e entry

theorem State.Settled.write {s : State} {b : BindingNo} {x : Tag} (h : s.Settled P b x) {f : BindingRecord → BindingRecord}
    (state : (f (s.record b)).state = (s.record b).state := by rfl)
    (phase : (f (s.record b)).phase = (s.record b).phase := by rfl)
    (tag : (f (s.record b)).tag = (s.record b).tag := by rfl) : (s.updateRecord b f).Settled P b x := by
  constructor <;> rw [record_updateRecord_self]
  · exact fun hn => state ▸ h.notifies hn
  · exact fun hn => phase.trans (h.phase hn)
  · exact fun hn ht => tag.trans (h.tag hn ht)

theorem State.Settled.ends {s : State} {b : BindingNo} {x : Tag} (h : s.Settled P b x) :
    (P.notice → (s.record b).state ≠ .tagWait) ∧
    (P.notice → (s.record b).PhaseFits → (s.record b).phase.unlisted = true) ∧
    (P.notice → (s.record b).PhaseFits → (s.record b).FlightFits → (s.record b).inFlight = 0) := by
  refine ⟨fun hn e => ?_, fun hn _ => by rw [h.phase hn]; rfl, fun hn _ hf => ?_⟩
  · have := h.notifies hn
    rw [e] at this
    cases this
  · have := h.notifies hn
    rw [RecordState.notifies_iff] at this
    exact hf.inFlight_eq (by rcases this with e | e <;> simp [e]) (by simp [h.phase hn])

/-- R82, R119: the tag of an answered notice is released and its record completes. -/
theorem State.Settled.leads_release {s : State} {b : BindingNo} {x : Tag} (h : s.Settled P b x) :
    s.Leads P ((s.releaseTag x).completeRetirement b) :=
  leads_complete (.inr ⟨rfl, h.ends.1⟩) h.ends.2.1 h.ends.2.2 (.release x fun ⟨⟨hn, ht⟩, _⟩ => h.tag hn ht)

/-- R79, R80: the tag of an exhausted UNBIND is stranded and its record completes. -/
theorem State.Settled.leads_strand {s : State} {b : BindingNo} {x : Tag} (h : s.Settled P b x) (q : Byte) :
    s.Leads P (((s.strandTag b x q).updateRecord b fun r => { r with strandedNote := true }).completeRetirement b) := by
  obtain ⟨u, hu⟩ : ∃ u, u = s.strandTag b x q := ⟨_, rfl⟩
  have tag : s.GivesUp b (s.Tied P) u := hu ▸ .strand x q fun ⟨⟨hn, ht⟩, _⟩ => h.tag hn ht
  have wait : s = s.leaveWaitQueue b ∨ s = s ∧ (P.notice → (s.record b).state ≠ .tagWait) := .inr ⟨rfl, h.ends.1⟩
  have keeps : (s.record b).Keeps s.classes (u.retiredOrFree { u.record b with strandedNote := true }) := by
    refine (BindingRecord.keeps_untag _ ((finish_frame wait tag).2.1 b)).trans
      (BindingRecord.Keeps.trans (r' := { u.record b with strandedNote := true }) {} (u.keeps_retiredOrFree _ _))
  have target := leads_finish wait h.ends.2.1 h.ends.2.2 tag (u.ended_retiredOrFree _) keeps
  rw [← hu, completeRetirement_eq, record_updateRecord_self, updateRecord_eq, putRecord_putRecord]
  exact target

/-- A notice becomes owed, whatever phase the record had. -/
theorem State.oweNotice_putRecord (s : State) (b : BindingNo) (r : BindingRecord) :
    (s.putRecord b r).oweNotice b = { s with notice := { s.notice with owed := s.notice.owed ++ [b] } }.putRecord b
      { r with phase := .owed } := by
  rw [oweNotice_eq, record_putRecord_self]
  exact putRecord_putRecord { s with notice := { s.notice with owed := s.notice.owed ++ [b] } } b r _

/-- R114, R160: the answered record's UNBIND becomes owed. -/
theorem State.leads_oweAnswered {s : State} {e : WindowEntry} {r : BindingRecord} (entry : e ∈ s.notice.window)
    (notifies : (s.record e.binding).state.notifies = true)
    (stays : { s.record e.binding with phase := .none }.Stays s.classes { r with phase := .none })
    (state : r.state.notifies = true) (not_forwarding : r.state ≠ .live ∧ r.state ≠ .suspended ∧ r.state ≠ .silent) :
    s.Leads P (((s.removeEntry e.seq).putRecord e.binding r).oweNotice e.binding) := by
  have same : ((s.removeEntry e.seq).putRecord e.binding r).oweNotice e.binding =
      ((s.removeEntry e.seq).putRecord e.binding { r with phase := .none }).oweNotice e.binding := by
    rw [oweNotice_putRecord, oweNotice_putRecord]
  have first := (leads_closed (P := P) entry).trans (leads_putRecord (b := e.binding) (r := { r with phase := .none }) (by
    rw [record_closed, BindingRecord.answered, if_pos notifies]; exact stays))
  rw [closed, putRecord_putRecord] at first
  rw [same]
  refine first.trans ((Move.owe e.binding ?_ ?_ ?_).leads rfl) <;> rw [record_putRecord_self]
  · exact state
  · rfl
  · exact fun hf => hf.inFlight_eq not_forwarding (by simp)

/-! ### The session lost -/

theorem State.sessionLoss_tags (s : State) (target : Session) : (s.sessionLoss target).tags = s.tags := by
  obtain ⟨_, _, _, _, h, _⟩ := s.sessionLoss_frame target
  rw [h]

theorem State.leads_sessionLoss (s : State) (target : Session) : s.Leads P (s.sessionLoss target) :=
  (Move.lose target).leads (s.sessionLoss_tags target)

/-- R147: a HELLO is issued with count 0. -/
theorem State.leads_issueHello (s : State) : s.Leads P s.issueHello :=
  leads_part {} { settings := fun ⟨h1, h2, h3, h4, _, h6⟩ => ⟨h1, h2, h3, h4, fun h e => by cases e; simp [Hello.inRange], h6⟩ }

theorem State.leads_enterResync (s : State) : s.Leads P s.enterResync := (s.leads_sessionLoss _).trans (leads_issueHello _)

theorem State.enterResync_tags (s : State) : s.enterResync.tags = s.tags := s.sessionLoss_tags .resync

/-- A HELLO of the slot becomes another, or none. -/
theorem State.leads_setHello (s : State) {x : Option Hello}
    (h : (∀ g, s.notice.hello = some g → g.inRange) → ∀ g, x = some g → g.inRange) :
    s.Leads P { s with notice := { s.notice with hello := x } } :=
  leads_part {} { settings := fun ⟨h1, h2, h3, h4, h5, h6⟩ => ⟨h1, h2, h3, h4, h h5, h6⟩ }

theorem State.leads_setSession (s : State) (x : Session) :
    s.Leads P { s with notice := { s.notice with session := x } } := leads_part {} {}

theorem State.leads_setOutput (s : State) (x : Output) :
    s.Leads P { s with trunk := { s.trunk with output := x } } := leads_part {} {}

theorem State.leads_setLine (s : State) (x : LineState) : s.Leads P { s with line := x } := leads_part {} {}

theorem State.leads_closeSession (s : State) : s.Leads P s.closeSession :=
  (s.leads_sessionLoss _).trans (leads_setHello _ (x := none) fun _ _ h => by cases h)

theorem State.leads_closeFailed (s : State) : s.Leads P s.closeFailed :=
  (s.leads_setSession _).trans (leads_raisePart _ _)

/-! ### Due entries, timeouts and exhaustion -/

theorem WindowEntry.eq_of_seq {w : List WindowEntry} (seqs : (w.map (·.seq)).Nodup) {e x : WindowEntry} (he : e ∈ w)
    (hx : x ∈ w) (h : x.seq = e.seq) : x = e := List.inj_on_of_nodup_map seqs hx he h

/-- A change of the window that ties each entry to its record as before. -/
theorem State.leads_setWindow {s : State} (w : List WindowEntry) (q : List Byte)
    (ties : w.map WindowEntry.ties = s.notice.window.map WindowEntry.ties)
    (due : s.NoticeLaw → s.WindowLaw → { s with notice := { s.notice with window := w, retransmit := q } }.WindowLaw) :
    s.Leads P { s with notice := { s.notice with window := w, retransmit := q } } :=
  leads_part { window := ties, due := due } {
    capacity := fun ⟨h1, h2, h3⟩ => ⟨h1, h2, (window_maps ties).2.2.trans_le h3⟩ }

theorem ties_mapEntry (w : List WindowEntry) (q : Byte) (f : WindowEntry → WindowEntry) (hf : ∀ e, (f e).ties = e.ties) :
    (w.map fun e => if e.seq = q then f e else e).map WindowEntry.ties = w.map WindowEntry.ties := by
  rw [List.map_map]
  refine List.map_congr_left fun e _ => ?_
  show WindowEntry.ties (if e.seq = q then f e else e) = e.ties
  split
  · exact hf e
  · rfl

/-- R155, R157, R161: an entry sent fewer than four times becomes due. -/
theorem State.leads_makeDue {s : State} {e : WindowEntry} (entry : e ∈ s.notice.window)
    (count : e.count < Config.maxTransmissions) : s.Leads P (s.makeDue e.seq) := by
  have ties := ties_mapEntry s.notice.window e.seq (fun e => { e with timer := none }) fun _ => rfl
  have entries (hn : s.NoticeLaw) (hw : s.WindowLaw) (r : List Byte)
      (hr : ∀ q ∈ r, q = e.seq ∨ q ∈ s.notice.retransmit) : ∀ x ∈ s.notice.window.map fun x =>
        if x.seq = e.seq then { x with timer := none } else x, 1 ≤ x.count ∧ x.count ≤ Config.maxTransmissions ∧
          (x.seq ∈ r → x.count < Config.maxTransmissions ∧ x.timer = none) := by
    obtain ⟨_, _, _, seqs, _⟩ := s.noticeLaw_iff.mp hn
    intro x hx
    obtain ⟨y, hy, rfl⟩ := List.mem_map.mp hx
    obtain ⟨h1, h2, h3⟩ := hw.1 y hy
    by_cases same : y.seq = e.seq
    · obtain rfl := WindowEntry.eq_of_seq seqs entry hy same
      rw [if_pos rfl]
      exact ⟨h1, h2, fun _ => ⟨count, rfl⟩⟩
    · rw [if_neg same]
      exact ⟨h1, h2, fun h => h3 ((hr _ h).resolve_left same)⟩
  have numbers : ∀ q ∈ s.notice.window.map (·.seq), q ∈ (s.notice.window.map fun x =>
      if x.seq = e.seq then { x with timer := none } else x).map (·.seq) := fun q h => (window_maps ties).1.symm ▸ h
  unfold makeDue
  simp only
  split
  · exact leads_setWindow _ s.notice.retransmit ties fun hn hw =>
      ⟨entries hn hw _ fun _ h => .inr h, hw.2.1, fun q h => numbers q (hw.2.2 q h)⟩
  next fresh =>
    refine leads_setWindow _ (s.notice.retransmit ++ [e.seq]) ties fun hn hw =>
      ⟨entries hn hw _ fun q h => ?_, ?_, fun q h => numbers q ?_⟩
    · exact (List.mem_append.mp h).symm.imp_left List.mem_singleton.mp
    · exact List.nodup_append.mpr ⟨hw.2.1, List.nodup_singleton _, fun a ha b hb e' =>
        fresh (by rw [List.mem_singleton.mp hb] at e'; exact e' ▸ ha)⟩
    · rcases List.mem_append.mp h with h | h
      · exact hw.2.2 q h
      · rw [List.mem_singleton.mp h]; exact List.mem_map.mpr ⟨e, entry, rfl⟩

theorem State.rephased_strandTag (s : State) (b c : BindingNo) (p : NoticePhase) (x : Tag) (q : Byte) :
    (s.rephased b p).strandTag c x q = (s.strandTag c x q).rephased b p := by
  rw [strandTag_eq, strandTag_eq]
  exact rephased_untag { s with
    tags := { s.tags with table := s.tags.table.set x (.stranded q), strandedCount := s.tags.strandedCount + 1 }
    attention.part := s.partAfter 0x04#6 } b c p

/-- An update that reads and writes no notice phase. -/
theorem State.rephased_updateRecord (s : State) (b : BindingNo) (p : NoticePhase) {f : BindingRecord → BindingRecord}
    (hf : f { s.record b with phase := p } = { f (s.record b) with phase := p } := by rfl) :
    (s.rephased b p).updateRecord b f = (s.updateRecord b f).rephased b p := by
  simp only [rephased, updateRecord_eq, record_putRecord_self, putRecord_putRecord, hf]

/-- R157, R79, R80: the exhaustion of an UNBIND. -/
theorem State.leads_exhaustUnbind {s : State} {e : WindowEntry} (entry : e ∈ s.notice.window) :
    s.Leads s.premises (s.exhaustUnbind e) := by
  have ends : s.Leads s.premises ((((s.removeEntry e.seq).strandTag e.binding e.tag e.seq).updateRecord e.binding fun r =>
      { r with strandedNote := true }).completeRetirement e.binding) := by
    have target := (leads_closed entry).trans ((settled_closed entry).leads_strand e.seq)
    cases notifies : (s.record e.binding).state.notifies with
    | false => rwa [closed_of_not_notifies notifies] at target
    | true =>
      rw [closed_of_notifies notifies] at target
      rwa [rephased_strandTag, rephased_updateRecord, rephased_completeRetirement] at target
  unfold exhaustUnbind
  simp only
  split
  · exact ends.trans (leads_enterResync _)
  · exact ends

theorem State.leads_exhaust {s : State} {e : WindowEntry} (entry : e ∈ s.notice.window) :
    s.Leads s.premises (s.exhaust e) := by
  unfold exhaust
  split
  · exact s.leads_enterResync
  · exact leads_exhaustUnbind entry

/-- R157, R161: a timeout of an entry. -/
theorem State.leads_timeoutEntry {s : State} {e : WindowEntry} (entry : e ∈ s.notice.window) :
    s.Leads s.premises (s.timeoutEntry e) := by
  unfold timeoutEntry
  split
  next count => exact leads_makeDue entry count
  next => exact leads_exhaust entry

/-! ### Replies -/

/-- R159, R82: the acknowledgement of an UNBIND, or a refusal that ends the record. -/
theorem State.rephased_releaseAnswered (s : State) (b : BindingNo) (p : NoticePhase) (x : Tag) :
    ((s.rephased b p).releaseTag x).completeRetirement b = (s.releaseTag x).completeRetirement b := by
  rw [rephased_releaseTag, rephased_completeRetirement]

theorem State.rephased_enterLive (s : State) (b : BindingNo) (p : NoticePhase) :
    (s.rephased b p).enterLive b = s.enterLive b := by
  simp only [enterLive_eq, rephased, record_putRecord_self, putRecord_putRecord, classOf]
  rfl

/-- R160, R114: a refused BIND that ends its record, after a change `f` of other fields. -/
theorem State.leads_endRefused {s : State} {e : WindowEntry} (entry : e ∈ s.notice.window) {f : BindingRecord → BindingRecord}
    (notifies : (s.record e.binding).state.notifies = true) (hf : ∀ r p, f { r with phase := p } = { f r with phase := p })
    (state : ∀ r, (f r).state = r.state) (tag : ∀ r, (f r).tag = r.tag) (phase : ∀ r, (f r).phase = r.phase)
    (stays : ∀ cs r, BindingRecord.Stays cs r (f r)) :
    s.Leads s.premises ((((s.removeEntry e.seq).updateRecord e.binding f).releaseTag e.tag).completeRetirement e.binding) := by
  have settled := (settled_closed entry).write (f := f) (state _) (phase _) (tag _)
  have target := ((leads_closed entry).trans (leads_updateRecord (stays _ _))).trans settled.leads_release
  rwa [closed_of_notifies notifies, rephased_updateRecord _ _ _ (hf _ _), rephased_releaseAnswered] at target

/-- R114: the UNBIND of a RETIRING record once its BIND is answered, after a change of the record that keeps it RETIRING. -/
theorem State.leads_answerRetiring {s : State} {e : WindowEntry} (entry : e ∈ s.notice.window) {r : BindingRecord}
    (state : (s.record e.binding).state = .retiring) (state' : r.state = .retiring)
    (stays : { s.record e.binding with phase := .none }.Stays s.classes { r with bindPending := false, phase := .none }) :
    s.Leads P (((s.removeEntry e.seq).putRecord e.binding r).answerBindPending e.binding) := by
  rw [answerBindPending, updateRecord_eq, record_putRecord_self, putRecord_putRecord]
  exact leads_oweAnswered entry (by rw [state]; rfl) stays (by rw [state']; rfl) (by simp [state'])

/-- R159: a reply acknowledges an entry. -/
theorem State.leads_acknowledge {s : State} {e : WindowEntry} (entry : e ∈ s.notice.window) :
    s.Leads s.premises (s.acknowledge e) := by
  have closed := leads_closed (P := s.premises) entry
  unfold acknowledge
  split
  · have target := closed.trans (settled_closed entry).leads_release
    cases notifies : (s.record e.binding).state.notifies with
    | false => rwa [closed_of_not_notifies notifies] at target
    | true => rwa [closed_of_notifies notifies, rephased_releaseAnswered] at target
  · have same : (s.removeEntry e.seq).record e.binding = s.record e.binding := rfl
    simp only [same]
    split
    next state =>
      have notifies : (s.record e.binding).state.notifies = true := by rw [state]; rfl
      have live : (s.closed e).Leads s.premises ((s.closed e).enterLive e.binding) := leads_enterLive (.inr (by
        rw [record_closed, BindingRecord.answered, if_pos notifies]; exact ⟨state, rfl⟩))
      rw [closed_of_notifies notifies] at closed live
      rw [rephased_enterLive] at live
      exact closed.trans live
    next state =>
      exact leads_answerRetiring (r := { s.record e.binding with announced := true }) entry state state {}
    next other other' =>
      rwa [closed_of_not_notifies (Bool.eq_false_iff.mpr fun h =>
        ((RecordState.notifies_iff _).mp h).elim other other')] at closed

/-- R160, R114: a BIND refused with NO_ROOM. -/
theorem State.leads_refuseBind {s : State} {e : WindowEntry} (entry : e ∈ s.notice.window) :
    s.Leads s.premises (s.refuseBind e) := by
  have closed := leads_closed (P := s.premises) entry
  have same : (s.removeEntry e.seq).record e.binding = s.record e.binding := rfl
  unfold refuseBind
  simp only [same]
  split
  next state _ =>
    exact leads_endRefused entry (f := fun r => { r with cause := some .refused }) (by rw [state]; rfl)
      (fun _ _ => rfl) (fun _ => rfl) (fun _ => rfl) (fun _ => rfl) fun _ _ => {}
  next state _ =>
    exact leads_oweAnswered (r := (s.record e.binding).retiring .refused) entry (by rw [state]; rfl)
      (BindingRecord.stays_retiring _ (r := { s.record e.binding with phase := .none }) state .refused
        (s.record e.binding).bindPending) rfl (by simp [BindingRecord.retiring])
  next state _ =>
    exact leads_endRefused entry (f := fun r => { r with bindPending := false }) (by rw [state]; rfl)
      (fun _ _ => rfl) (fun _ => rfl) (fun _ => rfl) (fun _ => rfl) fun _ _ => {}
  next state _ =>
    have target := leads_answerRetiring (P := s.premises) (r := s.record e.binding) entry state state {}
    rwa [← same, putRecord_record] at target
  next h1 h2 h3 h4 =>
    have notifies : (s.record e.binding).state.notifies = false := by
      cases announced : (s.record e.binding).announced <;> cases state : (s.record e.binding).state <;>
        simp_all [RecordState.notifies]
    rwa [closed_of_not_notifies notifies] at closed

/-- R163, R150: a stray reply. -/
theorem State.leads_countStray (s : State) : s.Leads P s.countStray :=
  leads_part {} { counts := fun ⟨h1, h2, h3, h4, _⟩ => ⟨h1, h2, h3, h4, satSucc_le _⟩ }

/-- R82: a late reply. -/
theorem State.leads_lateReply (s : State) (confirms : Bool) (q : Byte) : s.Leads P (s.lateReply confirms q) := by
  unfold lateReply
  split
  next x h =>
    have mem : x ∈ s.strandedWith q := by rw [h]; simp
    exact (Move.releaseStranded x q (by simpa [strandedWith] using mem)).leads_of_calm fun _ => s.calm_releaseTag x
  · exact s.leads_countStray

/-- Table 8-D: a NAK. -/
theorem State.leads_nakEntry {s : State} {e : WindowEntry} (entry : e ∈ s.notice.window) (r : NakReason) :
    s.Leads s.premises (s.nakEntry e r) := by
  unfold nakEntry
  split
  · exact leads_refuseBind entry
  · exact leads_acknowledge entry
  all_goals exact leads_timeoutEntry entry

theorem State.windowEntry_mem {s : State} {q : Byte} {e : WindowEntry} (h : s.windowEntry q = some e) :
    e ∈ s.notice.window := List.mem_of_find?_eq_some h

/-! ### The item in transmission -/

/-- R137, R138: the descriptor in transmission leaves the queue. -/
theorem State.leads_dequeue {s : State} {d : Descriptor} (sending : s.sending = some d) :
    s.Leads P (s.removeSending.lessen d.binding) := by
  refine (Move.dequeue d sending).leads ?_
  unfold lessen
  split <;> rfl

/-- R138: a descriptor in transmission is dropped. -/
theorem State.leads_dropSending {s : State} {d : Descriptor} (sending : s.sending = some d) :
    s.Leads P (s.removeSending.dropDescriptor d) := by
  have count (u : State) : u.Leads P { u with counters.framesPurged := satSucc u.counters.framesPurged } :=
    leads_part {} { counts := fun ⟨h1, h2, _, h3⟩ => ⟨h1, h2, satSucc_le _, h3⟩ }
  have dequeued := leads_dequeue (P := P) sending
  unfold dropDescriptor dropFromRecord
  unfold lessen at dequeued
  cases hb : d.binding with
  | none =>
    simp only [hb] at dequeued
    exact (dequeued.trans (leads_returnCells _ _)).trans (count _)
  | some b =>
    simp only [hb] at dequeued
    have withheld (u : State) : u.Leads P (u.updateRecord b BindingRecord.countWithheld) :=
      leads_updateRecord (BindingRecord.stays_countWithheld ..)
    refine ((dequeued.trans ((withheld _).trans (leads_returnCells _ d.cellCount))).trans (count _)).trans (.of_eq ?_)
    simp only [updateRecord_eq, record_putRecord_self, putRecord_putRecord]
    rfl

theorem State.leads_cutOff (s : State) : s.Leads P s.cutOff := by
  unfold cutOff
  refine Leads.trans ?_ (leads_setOutput _ .idle)
  split
  · split
    next sending => exact leads_dropSending sending
    next => exact .refl s
  · exact .refl s

/-- R137 steps 1 to 4. -/
theorem State.leads_completeSend {s : State} {d : Descriptor} (sending : s.sending = some d) :
    s.Leads P (s.completeSend d) := by
  have count (u : State) : u.Leads P { u with counters.framesSent := satSucc u.counters.framesSent } :=
    leads_part {} { counts := fun ⟨h1, _, h2⟩ => ⟨h1, satSucc_le _, h2⟩ }
  have dequeued := leads_dequeue (P := P) sending
  unfold completeSend completeInFlight
  unfold lessen at dequeued
  cases hb : d.binding with
  | none =>
    simp only [hb] at dequeued
    exact (dequeued.trans (leads_returnCells _ _)).trans (count _)
  | some b =>
    simp only [hb] at dequeued
    exact ((dequeued.trans (leads_returnCells _ d.cellCount)).trans (count _)).trans (leads_moveDrained _ b)

theorem State.sendingItem_sending {s : State} {d : Descriptor} (h : s.sendingItem = some d) : s.sending = some d := by
  unfold sendingItem at h
  split at h
  · exact h
  · cases h

/-! ### Timers and the line -/

/-- R148: a HELLO keeps its count when its timer starts. -/
theorem State.leads_mapHello (s : State) {f : Hello → Hello} (h : ∀ g, g.inRange → (f g).inRange) :
    s.Leads P { s with notice := { s.notice with hello := s.notice.hello.map f } } :=
  s.leads_setHello fun hs g hg => by
    obtain ⟨g', hg', rfl⟩ := Option.map_eq_some_iff.mp hg
    exact h g' (hs g' hg')

theorem Hello.inRange_start (g : Hello) (n : Nat) (h : g.inRange) :
    (if g.due then g else { g with timer := some n }).inRange := by
  split
  · exact h
  · exact h

theorem State.leads_helloAtLineUp (s : State) : s.Leads P s.helloAtLineUp :=
  s.leads_mapHello fun g h => g.inRange_start _ h

theorem State.leads_helloAtLineDown (s : State) : s.Leads P s.helloAtLineDown :=
  s.leads_mapHello fun _ h => ⟨h.1, fun due => by simpa using due⟩

/-- R157: an entry that is not due starts its timer. -/
theorem State.leads_startTimer (s : State) (i : TxItem) : s.Leads P (s.startTimer i) := by
  unfold startTimer
  split
  · exact .refl s
  next q =>
    split
    · exact .refl s
    next notDue =>
      have ties := ties_mapEntry s.notice.window q (fun e => { e with timer := some s.notice.timeout }) fun _ => rfl
      refine leads_setWindow _ s.notice.retransmit ties fun _ hw => ⟨fun x hx => ?_, hw.2.1, fun p hp => ?_⟩
      · obtain ⟨y, hy, rfl⟩ := List.mem_map.mp hx
        obtain ⟨h1, h2, h3⟩ := hw.1 y hy
        by_cases same : y.seq = q
        · rw [if_pos same]
          exact ⟨h1, h2, fun h => absurd (same ▸ h) notDue⟩
        · rw [if_neg same]
          exact ⟨h1, h2, h3⟩
      · exact (window_maps ties).1.symm ▸ hw.2.2 p hp
  · exact s.leads_mapHello fun g h => g.inRange_start _ h

/-- Table 8-C: the line-down event in the session. -/
theorem State.leads_sessionLineDown (s : State) : s.Leads P s.sessionLineDown := by
  unfold sessionLineDown
  split
  · exact s.leads_enterResync
  · exact s.leads_helloAtLineDown
  · exact s.leads_helloAtLineDown
  · exact .refl s
  · exact .refl s

/-- R148: HELLO exhaustion. -/
theorem State.leads_exhaustHello (s : State) : s.Leads P s.exhaustHello :=
  ((s.leads_setHello (x := none) fun _ _ h => by cases h).trans (leads_setSession _ .failed)).trans (leads_raisePart _ _)

/-! ### HELLO-ACK -/

theorem State.releasesAtHelloAck_tags (s : State) : s.releasesAtHelloAck.tags =
    (((List.finRange 31).filter s.releasedAtHelloAck).foldl State.releaseTag s).tags := by
  unfold releasesAtHelloAck
  generalize allBindings.filter s.completesAtHelloAck = l
  generalize ((List.finRange 31).filter s.releasedAtHelloAck).foldl State.releaseTag s = u
  induction l generalizing u with
  | nil => rfl
  | cons b l ih =>
    rw [List.foldl_cons, ih, completeRetirement_eq]
    rfl

/-- R149 steps 3 and 4. -/
theorem State.leads_helloReleases (s : State) : s.Leads P s.releasesAtHelloAck :=
  Move.helloReleases.leads_of_calm fun _ => (s.calm_releaseTags _).trans (.of_tags s.releasesAtHelloAck_tags)

/-- R149 step 5: the notices that waited for the session become owed. -/
theorem State.leads_oweNotices {l : List BindingNo} (nodup : l.Nodup) (s : State) (h : ∀ b ∈ l, s.owedAtHelloAck b = true) :
    s.Leads P (l.foldl State.oweNotice s) := by
  induction l generalizing s with
  | nil => exact .refl s
  | cons b l ih =>
    obtain ⟨fresh, nodup⟩ := List.nodup_cons.mp nodup
    have hb := h b List.mem_cons_self
    simp only [owedAtHelloAck, Bool.and_eq_true, beq_iff_eq] at hb
    obtain ⟨state, phase⟩ := hb
    have first : s.Leads P (s.oweNotice b) := (Move.owe b (by rw [state]; rfl) (by rw [phase]; rfl) fun hf =>
      hf.inFlight_eq (by simp [state]) (by simp [phase])).leads rfl
    refine first.trans (ih nodup _ fun c hc => ?_)
    have other : (s.oweNotice b).record c = s.record c := by
      rw [oweNotice_eq]
      exact record_putRecord_ne _ _ fun e => fresh (e ▸ hc)
    unfold owedAtHelloAck
    rw [other]
    exact h c (List.mem_cons_of_mem _ hc)

/-- R149 steps 1 to 5. -/
def State.sessionUp (s : State) : State :=
  let s1 := { s with notice.session := .up, notice.hello := none, trunk.credit := 0 }
  let s3 := s1.releasesAtHelloAck
  (allBindings.filter s3.owedAtHelloAck).foldl State.oweNotice s3

theorem State.openSession_eq (s : State) : s.openSession = (s.sessionUp.grantIfReleased s).raisePart .session := rfl

theorem State.leads_sessionUp (s : State) : s.Leads P s.sessionUp := by
  have first : s.Leads P { s with notice.session := .up, notice.hello := none, trunk.credit := 0 } :=
    leads_part {} {
      capacity := fun ⟨h1, _, h3⟩ => ⟨h1, Nat.zero_le _, h3⟩
      settings := fun ⟨h1, h2, h3, h4, _, h6⟩ => ⟨h1, h2, h3, h4, fun _ e => (by cases e), h6⟩ }
  refine (first.trans (leads_helloReleases _)).trans (leads_oweNotices ((List.nodup_finRange 48).filter _) _ fun b hb => ?_)
  exact (List.mem_filter.mp hb).2

/-! ### The arbiter's choice -/

theorem State.leads_startItem (s : State) (i : TxItem) (bytes : List Byte) : s.Leads P (s.startItem i bytes) :=
  s.leads_setOutput _

theorem State.leads_countRetransmission (s : State) (n : Nat) : s.Leads P (s.countRetransmission n) := by
  unfold countRetransmission
  split
  · exact leads_part {} { counts := fun ⟨h1, h2, h3, _, h4⟩ => ⟨h1, h2, h3, satSucc_le _, h4⟩ }
  · exact .refl s

theorem State.countRetransmission_notice (s : State) (n : Nat) : (s.countRetransmission n).notice = s.notice := by
  unfold countRetransmission
  split <;> rfl

/-- R148: a HELLO that is due is begun. -/
theorem State.leads_beginHello {s : State} {h : Hello} (hello : s.notice.hello = some h) (due : h.due = true) :
    s.Leads P (s.beginHello h) := by
  refine ((s.leads_countRetransmission h.count).trans (leads_setHello _ fun hs g hg => ?_)).trans (leads_startItem _ _ _)
  have := hs h (by rw [countRetransmission_notice, hello])
  cases hg
  exact ⟨this.2 due, fun hd => by cases hd⟩

/-- R155 item 2: the entry due longest stands in the window and is due. -/
theorem State.dueEntry_some {s : State} {e : WindowEntry} (h : s.dueEntry = some e) :
    e ∈ s.notice.window ∧ e.seq ∈ s.notice.retransmit := by
  obtain ⟨q, hq, he⟩ := List.exists_of_findSome?_eq_some h
  exact ⟨windowEntry_mem he, windowEntry_seq he ▸ hq⟩

/-- R157: the begin of a retransmission. -/
theorem State.leads_beginAgain {s : State} {e : WindowEntry} (h : s.dueEntry = some e) : s.Leads P (s.beginAgain e) := by
  obtain ⟨entry, isDue⟩ := dueEntry_some h
  refine ((s.leads_countRetransmission e.count).trans ?_).trans (leads_startItem _ _ _)
  have same : (s.countRetransmission e.count).notice = s.notice := s.countRetransmission_notice _
  generalize s.countRetransmission e.count = u at same
  rw [← same] at entry isDue
  have ties := ties_mapEntry u.notice.window e.seq (fun x => { x with count := x.count + 1, timer := none }) fun _ => rfl
  refine leads_setWindow _ (u.notice.retransmit.erase e.seq) ties fun hn hw => ⟨fun x hx => ?_, hw.2.1.erase _, fun q hq => ?_⟩
  · obtain ⟨_, _, _, seqs, _⟩ := u.noticeLaw_iff.mp hn
    obtain ⟨y, hy, rfl⟩ := List.mem_map.mp hx
    obtain ⟨h1, h2, h3⟩ := hw.1 y hy
    by_cases same : y.seq = e.seq
    · obtain rfl := WindowEntry.eq_of_seq seqs entry hy same
      rw [if_pos rfl]
      exact ⟨Nat.le_add_left _ _, (h3 isDue).1, fun h => absurd rfl (hw.2.1.mem_erase_iff.mp h).1⟩
    · rw [if_neg same]
      exact ⟨h1, h2, fun h => h3 (List.mem_of_mem_erase h)⟩
  · exact (window_maps ties).1.symm ▸ hw.2.2 q (List.mem_of_mem_erase hq)

/-- R155 item 3: the head of the owed list, with its tag, when the window has room. -/
theorem State.owedOffer_some {s : State} {o : Offer} (h : s.owedOffer = some o) : ∃ b x rest, o = .first b x ∧
    s.notice.owed = b :: rest ∧ s.notice.window.length < Config.windowCapacity ∧ (s.record b).tag = some x := by
  unfold owedOffer at h
  split at h
  next up =>
    split at h
    next b rest owed =>
      obtain ⟨x, tag, rfl⟩ := Option.map_eq_some_iff.mp h
      exact ⟨b, x, rest, rfl, owed, up.2, tag⟩
    next => cases h
  next => cases h

/-- R155, R156: the begin of an owed notice. -/
theorem State.leads_beginFirst {s : State} {b : BindingNo} {x : Tag} {rest : List BindingNo}
    (owed : s.notice.owed = b :: rest) (room : s.notice.window.length < Config.windowCapacity)
    (tag : (s.record b).tag = some x) : s.Leads P (s.beginFirst b x) := by
  have entry := (Move.openEntry (P := P) b x (noticeKindOf (s.record b).state) rest owed room tag).leads rfl
  have sequence (u : State) (q : Byte) : u.Leads P { u with notice := { u.notice with sequence := q } } := leads_part {} {}
  refine ((entry.trans (sequence _ (s.nextSeq + 1))).trans (leads_setOutput _ (s.beginFirst b x).trunk.output)).trans (.of_eq ?_)
  have tail : rest = s.notice.owed.tail := by rw [owed]; rfl
  rw [tail]
  rfl

/-- R131: marking a descriptor keeps what it names. -/
theorem markFirst_binding (p : Descriptor → Bool) (q : List Descriptor) :
    (markFirst p q).map (·.binding) = q.map (·.binding) := by
  induction q with
  | nil => rfl
  | cons d q ih =>
    unfold markFirst
    split
    · rfl
    · rw [List.map_cons, List.map_cons, ih]

/-- R131, R134: the begin of a DATA frame. -/
theorem State.leads_beginData (s : State) (p : Priority) (d : Descriptor) : s.Leads P (s.beginData p d) := by
  unfold beginData
  split
  · have queue := markFirst_binding (fun x => x.priority == p && !x.inTransmission) s.trunk.queue
    have length := congrArg List.length queue
    rw [List.length_map, List.length_map] at length
    exact leads_part { queue := queue } {
      capacity := fun ⟨h1, h2, h3⟩ => ⟨length.trans_le h1, (Nat.sub_le _ _).trans h2, h3⟩ }
  · exact .refl s

theorem State.leads_arbitrate (s : State) : s.Leads P s.arbitrate := by
  unfold arbitrate
  split
  · exact .refl s
  · split
    · split
      next o offer =>
        unfold noticeOffer at offer
        split at offer
        next h hello =>
          cases offer
          obtain ⟨hello, due⟩ := Option.filter_eq_some_iff.mp hello
          exact leads_beginHello hello due
        next =>
          split at offer
          next e due =>
            cases offer
            exact leads_beginAgain due
          next =>
            obtain ⟨b, x, rest, rfl, owed, room, tag⟩ := owedOffer_some offer
            exact leads_beginFirst owed room tag
      next =>
        unfold chooseData
        split
        · exact s.leads_beginData _ _
        · split
          · exact s.leads_beginData _ _
          · exact .refl s
    · exact .refl s

end Sys2Proof.Machine

namespace Sys2Proof.Machine

set_option Elab.async false

/-! ### Events -/

/-- What an event does: it is a sequence of moves, and it leaves no ready head of the free list while a record waits. -/
structure State.Evolves (s t : State) : Prop where
  reaches : s.Reaches s.premises t
  head : s.NoticeLaw → s.TagLaw → s.HeadLaw → t.HeadLaw

theorem State.Evolves.refl (s : State) : s.Evolves s := ⟨.refl s, fun _ _ h => h⟩

/-- Moves that leave the Tag Manager alone. -/
theorem State.Leads.evolves {s t : State} (h : s.Leads s.premises t) (tags : t.tags = s.tags) : s.Evolves t :=
  ⟨h.reaches, fun _ _ head => head.congr tags⟩

/-- R73, R76: moves that are calm, and the grants of their releases. -/
theorem State.Leads.evolves_grants {s t : State} (h : s.Leads s.premises t) : s.Evolves (t.grantIfReleased s) :=
  ⟨h.reaches.trans (reaches_grantIfReleased _ _), h.headLaw_grantIfReleased⟩

/-- Moves after the grants of an event leave the Tag Manager alone. -/
theorem State.Evolves.andThen {s t u : State} (h : s.Evolves t) (h' : t.Leads s.premises u) (tags : u.tags = t.tags := by rfl) :
    s.Evolves u := ⟨h.reaches.trans h'.reaches, fun hn ht head => (h.head hn ht head).congr tags⟩

theorem State.Evolves.arbitrate {s t : State} (h : s.Evolves t) : s.Evolves t.arbitrate :=
  h.andThen t.leads_arbitrate t.arbitrate_tags

theorem State.Evolves.post {s t : State} (h : s.Evolves t) (r : Result) (data : List Byte) : s.Evolves (t.post r data) :=
  h.andThen (t.leads_post r data)

/-- R183: a refused command changes no state of the part. -/
theorem State.evolves_refuse (s : State) (r : Result) : s.Evolves (s.refuse r) := (Evolves.refl s).post r []

/-- A change of nothing that the laws of records and lists read. -/
theorem State.evolves_part {s t : State} (lists : s.SameLists t) (keeps : s.PartKeeps t) (tags : t.tags = s.tags := by rfl) :
    s.Evolves t := (leads_part lists keeps tags).evolves tags

theorem takeEvent_evolves {s t : State} {f : State → State} (hf : s.Evolves (f s)) (h : takeEvent s f = .next t) :
    s.Evolves t := by
  obtain rfl := Host.Outcome.next.inj h
  split
  · exact .refl s
  · exact hf

theorem returnEvent_evolves {s t : State} {f : State → State} (hf : s.Evolves (f s)) (h : returnEvent s f = .next t) :
    s.Evolves t := by
  refine takeEvent_evolves ?_ h
  split
  · exact hf
  · exact .refl s

theorem commandEvent_evolves {s t : State} {code : Byte} {f : State → State} (hf : s.Evolves (f s))
    (h : commandEvent s code f = .next t) : s.Evolves t := by
  refine takeEvent_evolves ?_ h
  split
  · exact hf
  · exact .refl s

theorem State.raisePart_tags (s : State) (r : PartReason) : (s.raisePart r).tags = s.tags := by rw [raisePart_eq]

/-! ### The feeder family -/

section
variable {s t : State}

/-- R37: a close, its grants included. -/
theorem State.evolves_takeClose {c : FrameClose} (hc : c.Sound) (s : State) : s.Evolves (s.takeClose c) :=
  ⟨reaches_takeClose hc s, headLaw_takeClose hc⟩

/-- R35: a truncated frame is bad. -/
theorem OpenFrame.sound_truncated (f : OpenFrame) (l : LinkNo) : (f.close l false true).Sound := fun h => by cases h

/-- R36: a good frame has 1 to 96 cells. -/
theorem OpenFrame.sound_close (f : OpenFrame) (l : LinkNo) (declared : Byte) (crc : BitVec 16) :
    (f.close l (!f.badAtClose declared crc) false).Sound := by
  intro good
  simp only [OpenFrame.close, OpenFrame.badAtClose, Bool.not_false, Bool.and_true, Bool.not_eq_true', Bool.or_eq_false_iff,
    beq_eq_false_iff_ne, decide_eq_false_iff_not] at good
  obtain ⟨⟨⟨⟨_, some⟩, few⟩, _⟩, _⟩ := good
  exact ⟨Nat.one_le_iff_ne_zero.mpr some, Nat.not_lt.mp few⟩

variable {P : Premises}

theorem State.leads_openFrame (s : State) (l : LinkNo) (format : Fin 16) (stream : StreamNo) (n : Byte) :
    s.Leads P (s.openFrame l format stream n) :=
  leads_updateFeeder id fun x h => .inr (by cases h; exact Nat.zero_le _)

theorem State.leads_setFrame (s : State) (l : LinkNo) {f : OpenFrame} (h : f.cellsReceived ≤ Config.maxFrameCells + 1) :
    s.Leads P (s.setFrame l f) := leads_updateFeeder id fun x hx => .inr (by cases hx; exact h)

/-- R34: a cell of an open frame. -/
theorem State.leads_takeCell (s : State) (l : LinkNo) (f : OpenFrame) (payload : List Byte) :
    s.Leads P (s.takeCell l f payload) := by
  have few : (f.countCell payload).cellsReceived ≤ Config.maxFrameCells + 1 := Nat.min_le_right _ _
  unfold takeCell
  simp only
  split
  · exact s.leads_setFrame l few
  · split
    · unfold reserveCell
      split
      · have reserve : s.Leads P { s with freeCells := s.freeCells - 1 } := leads_part {} {}
        exact reserve.trans (leads_setFrame _ l few)
      · have few' : { (f.countCell payload).giveUp with overrun := true }.cellsReceived ≤ Config.maxFrameCells + 1 := few
        exact ((leads_returnCells s _).trans (leads_setFrame _ l few')).trans (leads_raisePart _ _)
    · exact (leads_returnCells s _).trans (leads_setFrame _ l few)

theorem State.takeCell_tags (s : State) (l : LinkNo) (f : OpenFrame) (payload : List Byte) :
    (s.takeCell l f payload).tags = s.tags := by
  unfold takeCell
  simp only
  split
  · rfl
  · split
    · unfold reserveCell
      split
      · rfl
      · exact raisePart_tags ..
    · rfl

theorem State.leads_loseLock (s : State) (l : LinkNo) : s.Leads P (s.loseLock l) :=
  (leads_updateFeeder (fun ⟨h1, h2, h3, h4, h5, _⟩ => ⟨h1, h2, h3, h4, h5, satSucc_le _⟩) fun _ h => (by cases h)).trans
    (leads_raisePart _ _)

theorem execOpenMarker_evolves {l : LinkNo} {format : Fin 16} {stream : StreamNo} {n : Byte}
    (h : execOpenMarker l format stream n s = .next t) : s.Evolves t := by
  refine takeEvent_evolves ?_ h
  split
  · split
    · exact (s.leads_openFrame ..).evolves rfl
    next f _ => exact ((State.evolves_takeClose (f.sound_truncated l) s).andThen (State.leads_openFrame ..)).arbitrate
  · exact .refl s

theorem execCellMarker_evolves {l : LinkNo} {payload : List Byte} (h : execCellMarker l payload s = .next t) :
    s.Evolves t := by
  refine takeEvent_evolves ?_ h
  split
  · split
    · exact .refl s
    · exact (s.leads_takeCell ..).evolves (s.takeCell_tags ..)
  · exact .refl s

theorem execFrameClose_evolves {l : LinkNo} {declared : Byte} {crc : BitVec 16}
    (h : execFrameClose l declared crc s = .next t) : s.Evolves t := by
  refine takeEvent_evolves ?_ h
  split
  · split
    · exact .refl s
    next f _ => exact (State.evolves_takeClose (f.sound_close l declared crc) s).arbitrate
  · exact .refl s

theorem execLineLock_evolves {l : LinkNo} (h : execLineLock l s = .next t) : s.Evolves t := by
  refine takeEvent_evolves ?_ h
  split
  · exact ((State.leads_updateFeeder id fun _ h => (by cases h)).trans (State.leads_raisePart _ _)).evolves
      (State.raisePart_tags ..)
  · exact .refl s

theorem execLockLoss_evolves {l : LinkNo} (h : execLockLoss l s = .next t) : s.Evolves t := by
  refine takeEvent_evolves ?_ h
  split
  · split
    · exact (s.leads_loseLock l).evolves (State.raisePart_tags ..)
    next f _ =>
      exact ((State.evolves_takeClose (f.sound_truncated l) s).andThen (State.leads_loseLock _ l)
        (State.raisePart_tags ..)).arbitrate
  · exact .refl s

end

/-! ### The timer family -/

section
variable {s t : State}

/-- R61 to R64, R102, R103: a lease expiry. -/
theorem State.leads_expireLease {P : Premises} (s : State) (b : BindingNo) : s.Leads P (s.expireLease b) := by
  simp only [expireLease]
  split
  next state =>
    split
    · exact leads_lapse (.inl state)
    · exact (leads_updateRecord (BindingRecord.stays_run_zero ..)).trans
        (leads_startLease (by rw [record_updateRecord_self, state]; rfl))
  next state =>
    split
    · exact leads_startLease (by rw [state]; rfl)
    · exact leads_lapse (.inr state)
  next state =>
    split
    · exact leads_enterSilent (.inl state)
    · exact s.leads_beginRetirement b _
  next state =>
    split
    · exact leads_enterSilent (.inr state)
    · exact s.leads_beginRetirement b _
  all_goals exact .refl s

theorem execLeaseExpiry_evolves {b : BindingNo} (h : execLeaseExpiry b s = .next t) : s.Evolves t := by
  refine takeEvent_evolves ?_ h
  split
  · exact (s.leads_expireLease b).evolves_grants.arbitrate
  · exact .refl s

/-- R73: a grant event, whatever of the Tag Manager's settings changed before it. -/
theorem State.evolves_grantEvent {u : State} (lists : s.SameLists u) (keeps : s.PartKeeps u) : s.Evolves u.grantEvent :=
  ⟨(Move.part lists keeps).reaches.trans (reaches_grantUpTo _ _), fun _ _ _ => u.headLaw_grantEvent⟩

theorem execHoldOffExpiry_evolves (h : execHoldOffExpiry s = .next t) : s.Evolves t :=
  takeEvent_evolves (State.evolves_grantEvent {} {}).arbitrate h

theorem execHelloTimerExpiry_evolves (h : execHelloTimerExpiry s = .next t) : s.Evolves t := by
  refine takeEvent_evolves ?_ h
  split
  next g hello =>
    split
    · refine State.Evolves.arbitrate ?_
      split
      next count =>
        refine (s.leads_setHello fun hs x hx => ?_).evolves rfl
        cases hx
        exact ⟨(hs g hello).1, fun _ => count⟩
      next => exact s.leads_exhaustHello.evolves (State.raisePart_tags ..)
    · exact .refl s
  next => exact .refl s

/-- R157: the exhaustion of an entry strands a tag and releases none. -/
theorem State.freeList_timeoutEntry (s : State) (e : WindowEntry) :
    (s.timeoutEntry e).tags.freeList = s.tags.freeList := by
  unfold timeoutEntry
  split
  · unfold makeDue
    simp only
    split <;> rfl
  · unfold exhaust
    split
    · rw [enterResync_tags]
    · have ended : ((((s.removeEntry e.seq).strandTag e.binding e.tag e.seq).updateRecord e.binding fun r =>
          { r with strandedNote := true }).completeRetirement e.binding).tags.freeList = s.tags.freeList := by
        rw [completeRetirement_eq, strandTag_eq]
        rfl
      unfold exhaustUnbind
      simp only
      split
      · rw [enterResync_tags, ended]
      · exact ended

theorem execNoticeTimerExpiry_evolves {q : Byte} (h : execNoticeTimerExpiry q s = .next t) : s.Evolves t := by
  refine takeEvent_evolves ?_ h
  split
  next e entry =>
    split
    · have timeout := State.leads_timeoutEntry (State.windowEntry_mem entry)
      exact State.Evolves.arbitrate ⟨timeout.reaches, timeout.headLaw (s.freeList_timeoutEntry e ▸ le_rfl)⟩
    · exact .refl s
  next => exact .refl s

/-- R70: a tick that makes the head of the free list ready while records wait is a hold-off expiry that stands to be taken,
and until it is taken no tag is ready. -/
theorem State.headLaw_tick (head : s.HeadLaw) :
    (if !s.headReached && s.advance.headReached && !s.tags.waitQueue.isEmpty then
      { s.advance with tags.holdOffDue := true } else s.advance).HeadLaw := by
  rcases head with wait | notReady
  · refine .inl ?_
    split <;> exact wait
  by_cases wait : s.tags.waitQueue = []
  · refine .inl ?_
    split <;> exact wait
  refine .inr fun x rest hx => ?_
  have hx : s.tags.freeList = x :: rest := by
    split at hx <;> exact hx
  rw [Bool.eq_false_iff]
  intro ready
  rw [tagReady_iff] at ready
  obtain ⟨⟨age, entry, le⟩, due⟩ := ready
  split at due
  · simp [advance, wait] at due
  next no =>
    have entry : s.advance.tagEntry x = .free age := by rwa [if_neg no] at entry
    have le : s.tags.holdOff ≤ age := by rwa [if_neg no] at le
    have reached : s.advance.headReached = true := by
      unfold headReached
      rw [show s.advance.tags.freeList = x :: rest from hx]
      simp only [entry]
      exact decide_eq_true le
    have before : s.headReached = true := by
      cases h : s.headReached
      · exact absurd (by simp [h, reached, wait]) no
      · rfl
    unfold headReached at before
    rw [hx] at before
    simp only at before
    have ready : s.tagReady x = true := by
      rw [tagReady_iff]
      refine ⟨?_, due⟩
      split at before
      next age' h => exact ⟨age', h, of_decide_eq_true before⟩
      next => cases before
    rw [notReady x rest hx] at ready
    cases ready

theorem execTimebaseTick_evolves (h : execTimebaseTick s = .next t) : s.Evolves t := by
  refine takeEvent_evolves ⟨?_, fun _ _ head => State.headLaw_tick head⟩ h
  simp only
  split
  · exact State.Move.tick.reaches.trans (State.Move.part {} {}).reaches
  · exact State.Move.tick.reaches

end

section
variable {s t : State} {P : Premises}

/-! ### The trunk family -/

/-- R116: a drain end outside UP releases no tag. -/
theorem State.moveDrained_tags {s : State} (h : s.notice.session ≠ .up) (b : BindingNo) :
    (s.moveDrained b).tags = s.tags := by
  unfold moveDrained
  split
  · split
    · unfold drainEnd
      split
      · rfl
      · rfl
    · exact s.oweOrAwait_tags b
    · rfl
  · rfl

theorem State.dropDescriptor_tags (s : State) (d : Descriptor) : (s.dropDescriptor d).tags = s.tags := by
  unfold dropDescriptor dropFromRecord
  split <;> rfl

theorem State.cutOff_tags (s : State) : s.cutOff.tags = s.tags := by
  unfold cutOff
  split
  · split
    · exact dropDescriptor_tags ..
    · rfl
  · rfl

theorem State.enterResync_session (s : State) : s.enterResync.notice.session = .resync := by
  obtain ⟨_, _, _, _, h, _⟩ := s.sessionLoss_frame .resync
  unfold enterResync issueHello
  rw [h]

theorem State.sessionLineDown_effect (s : State) :
    s.sessionLineDown.tags = s.tags ∧ s.sessionLineDown.notice.session ≠ .up := by
  unfold sessionLineDown
  split
  next => exact ⟨s.enterResync_tags, by rw [enterResync_session]; simp⟩
  all_goals
    next h => exact ⟨rfl, by simp [helloAtLineDown, h]⟩

theorem execSendCompletion_evolves (h : execSendCompletion s = .next t) : s.Evolves t := by
  refine takeEvent_evolves ?_ h
  split
  next d sending =>
    exact ((State.leads_completeSend (State.sendingItem_sending sending)).evolves_grants.andThen
      (State.leads_setOutput _ .idle)).arbitrate
  next => exact .refl s

theorem State.startTimer_tags (s : State) (i : TxItem) : (s.startTimer i).tags = s.tags := by
  unfold startTimer
  split
  · rfl
  · split <;> rfl
  · rfl

theorem execNoticeEnd_evolves (h : execNoticeEnd s = .next t) : s.Evolves t := by
  have ends (i : TxItem) : s.Evolves { s.startTimer i with trunk.output := .idle }.arbitrate :=
    (((s.leads_startTimer i).evolves (s.startTimer_tags i)).andThen (State.leads_setOutput _ .idle)).arbitrate
  refine takeEvent_evolves ?_ h
  split
  · exact ends _
  · exact ends _
  · exact .refl s
  · exact .refl s

theorem execLineUp_evolves (h : execLineUp s = .next t) : s.Evolves t := by
  refine takeEvent_evolves ?_ h
  split
  · exact ((s.leads_helloAtLineUp.trans (State.leads_setLine _ .up)).evolves rfl).arbitrate
  · exact .refl s

theorem execLineDown_evolves (h : execLineDown s = .next t) : s.Evolves t := by
  refine takeEvent_evolves ?_ h
  split
  · have down : s.Leads s.premises { s.cutOff with line := .down }.sessionLineDown :=
      (s.leads_cutOff.trans (State.leads_setLine _ .down)).trans (State.leads_sessionLineDown _)
    obtain ⟨tags, session⟩ := State.sessionLineDown_effect { s.cutOff with line := .down }
    have tags := tags.trans s.cutOff_tags
    simp only
    split
    next b _ => exact (down.trans (State.leads_moveDrained _ b)).evolves ((State.moveDrained_tags session b).trans tags)
    next => exact down.evolves tags
  · exact .refl s

theorem execCredit_evolves {increment : BitVec 16} (h : execCredit increment s = .next t) : s.Evolves t := by
  refine returnEvent_evolves ?_ h
  split
  · exact (State.evolves_part {} { capacity := fun ⟨h1, _, h3⟩ => ⟨h1, Nat.min_le_right _ _, h3⟩ }).arbitrate
  · exact .refl s

/-! ### The replies -/

theorem execHelloAck_evolves {number : Byte} (h : execHelloAck number s = .next t) : s.Evolves t := by
  refine returnEvent_evolves ?_ h
  split
  · rw [State.openSession_eq]
    exact (s.leads_sessionUp.evolves_grants.andThen (State.leads_raisePart _ _) (State.raisePart_tags ..)).arbitrate
  · exact s.leads_countStray.evolves rfl

theorem execAck_evolves {q : Byte} (h : execAck q s = .next t) : s.Evolves t := by
  refine returnEvent_evolves ?_ h
  split
  next e entry => exact (State.leads_acknowledge (State.windowEntry_mem entry)).evolves_grants.arbitrate
  next => exact (s.leads_lateReply _ _).evolves_grants.arbitrate

theorem execNak_evolves {q : Byte} {r : NakReason} (h : execNak q r s = .next t) : s.Evolves t := by
  refine returnEvent_evolves ?_ h
  split
  next e entry => exact (State.leads_nakEntry (State.windowEntry_mem entry) r).evolves_grants.arbitrate
  next => exact (s.leads_lateReply _ _).evolves_grants.arbitrate

theorem execResyncRequest_evolves (h : execResyncRequest s = .next t) : s.Evolves t := by
  refine returnEvent_evolves ?_ h
  split
  · exact (s.leads_enterResync.evolves s.enterResync_tags).arbitrate
  · exact .refl s

/-! ### The reset family -/

theorem execRestart_evolves (h : execRestart s = .next t) : s.Evolves t :=
  commandEvent_evolves (State.Evolves.post ⟨State.Move.restart.reaches, fun _ _ _ => .inl rfl⟩ _ _) h

theorem execResetAssertion_evolves (h : execResetAssertion s = .next t) : s.Evolves t := by
  obtain rfl := Host.Outcome.next.inj h
  exact State.evolves_part {} {}

theorem execPowerOnReset_evolves (h : execPowerOnReset s = .next t) : s.Evolves t := by
  obtain rfl := Host.Outcome.next.inj h
  exact ⟨State.Move.reset.reaches, fun _ _ _ => .inl rfl⟩

/-! ### The sweep family -/

/-- R124: a change of the sweep result that keeps it in range. -/
theorem State.leads_setSweep (s : State) {w : SweepEngine} (h : s.sweep.inRange → w.inRange) :
    s.Leads P { s with sweep := w } :=
  leads_part {} { settings := fun ⟨h1, h2, h3, h4, h5, h6⟩ => ⟨h1, h2, h3, h4, h5, h h6⟩ }

theorem State.leads_clearCounters (s : State) (b : BindingNo) : s.Leads P (s.updateRecord b BindingRecord.clearCounters) :=
  leads_updateRecord (BindingRecord.stays_clearCounters ..)

/-- R126: the action of a sweep on a record. -/
theorem State.leads_sweepAct (s : State) (b : BindingNo) (a : SweepAction) : s.Leads P (s.sweepAct b a) := by
  unfold sweepAct
  split
  · exact s.leads_beginRetirement b _
  · exact s.leads_clearCounters b
  · split
    next state => exact leads_goFree state
    next => exact .refl s

/-! The action of a visit reads no sweep result, so the counts and the cursor may rise together before it. -/

/-- The state with another sweep result. -/
def State.withSweep (s : State) (w : SweepEngine) : State := { s with sweep := w }

theorem State.withSweep_releaseTag (s : State) (w : SweepEngine) (x : Tag) :
    (s.withSweep w).releaseTag x = (s.releaseTag x).withSweep w := by
  have same : (s.withSweep w).tagEntry x = s.tagEntry x := rfl
  cases hx : s.tagEntry x with
  | free age => rw [releaseTag_free hx, releaseTag_free (same.trans hx)]
  | stranded q => rw [releaseTag_stranded hx, releaseTag_stranded (same.trans hx)]; rfl
  | held c => rw [releaseTag_held hx, releaseTag_held (same.trans hx)]; rfl

theorem State.withSweep_completeRetirement (s : State) (w : SweepEngine) (b : BindingNo) :
    (s.withSweep w).completeRetirement b = (s.completeRetirement b).withSweep w := by
  rw [completeRetirement_eq, completeRetirement_eq]
  rfl

theorem State.withSweep_releaseAndComplete (s : State) (w : SweepEngine) (b : BindingNo) :
    (s.withSweep w).releaseAndComplete b = (s.releaseAndComplete b).withSweep w := by
  have same : ((s.withSweep w).record b).tag = (s.record b).tag := rfl
  unfold releaseAndComplete releaseTagOf
  rw [same]
  cases (s.record b).tag with
  | none => exact s.withSweep_completeRetirement w b
  | some x => simp only [withSweep_releaseTag, withSweep_completeRetirement]

theorem State.withSweep_moveDrained (s : State) (w : SweepEngine) (b : BindingNo) :
    (s.withSweep w).moveDrained b = (s.moveDrained b).withSweep w := by
  have same : (s.withSweep w).record b = s.record b := rfl
  have session : (s.withSweep w).notice.session = s.notice.session := rfl
  unfold moveDrained drainEnd oweOrAwait
  simp only [same, session, withSweep_releaseAndComplete]
  split
  · split
    · split
      · rfl
      · split <;> rfl
    · split <;> rfl
    · rfl
  · rfl

theorem State.withSweep_beginRetirement (s : State) (w : SweepEngine) (b : BindingNo) (c : RetireCause) :
    (s.withSweep w).beginRetirement b c = (s.beginRetirement b c).withSweep w := by
  have same : (s.withSweep w).record b = s.record b := rfl
  have before : (s.withSweep w).retireBeforeAnnouncing b c = (s.retireBeforeAnnouncing b c).withSweep w :=
    withSweep_releaseAndComplete ((s.updateRecord b fun r => { r with cause := some c }).leaveWaitQueue b) w b
  have forwarding : (s.withSweep w).retireForwarding b c = (s.retireForwarding b c).withSweep w :=
    withSweep_moveDrained (s.updateRecord b fun r => { r.retiring c with consecutiveBad := 0, phase := .drain }) w b
  have announcing : (s.withSweep w).retireAnnouncing b c = (s.retireAnnouncing b c).withSweep w := by
    unfold retireAnnouncing
    rw [same]
    split
    · rfl
    · split
      · rfl
      · exact withSweep_releaseAndComplete ((s.updateRecord b fun r => { r with cause := some c }).leaveOwed b) w b
    all_goals rfl
  unfold beginRetirement
  rw [same, before, forwarding, announcing]
  split <;> rfl

theorem State.withSweep_sweepAct (s : State) (w : SweepEngine) (b : BindingNo) (a : SweepAction) :
    (s.withSweep w).sweepAct b a = (s.sweepAct b a).withSweep w := by
  unfold sweepAct
  split
  · exact s.withSweep_beginRetirement w b _
  · rfl
  · have same : (s.withSweep w).record b = s.record b := rfl
    rw [same]
    split <;> rfl

/-- R125 step 3, R127: the sweep result after a visit. -/
def SweepEngine.advanced (w : SweepEngine) : SweepEngine :=
  { w with cursor := w.cursor + 1, running := if w.cursor + 1 = Config.sweepEnd then false else w.running }

/-- R125: the counts of a visit to a record that matches. -/
def SweepEngine.counting (w : SweepEngine) (acts : Bool) : SweepEngine :=
  { w with matched := w.matched + 1, acted := if acts then w.acted + 1 else w.acted }

theorem SweepEngine.inRange_advanced {w : SweepEngine} (h : w.inRange) (cursor : w.cursor < 48) : w.advanced.inRange := by
  obtain ⟨_, h2, h3, _⟩ := h
  refine ⟨cursor, h2.trans (Nat.le_succ _), h3, fun running => ?_⟩
  simp only [advanced, Config.sweepEnd] at running ⊢
  split at running
  · cases running
  · omega

theorem SweepEngine.inRange_counting {w : SweepEngine} (h : w.inRange) (cursor : w.cursor < 48) (acts : Bool) :
    (w.counting acts).advanced.inRange := by
  obtain ⟨h1, h2, h3, h4⟩ := inRange_advanced h cursor
  refine ⟨h1, Nat.succ_le_succ h.2.1, ?_, h4⟩
  show (if acts then _ else _) ≤ w.matched + 1
  split
  · exact Nat.succ_le_succ h3
  · exact h3.trans (Nat.le_succ _)

/-- R125 step 3, R127: the cursor rises, and the last visit raises SWEEP_DONE. -/
theorem State.sweepAdvance_eq (s : State) : s.sweepAdvance =
    if s.sweep.cursor + 1 = Config.sweepEnd then (s.withSweep s.sweep.advanced).raisePart .sweepDone
    else s.withSweep s.sweep.advanced := by
  unfold sweepAdvance SweepEngine.advanced withSweep
  simp only
  split
  next h => simp only [h]
  next => rfl

/-- R125, R127: one visit counts its record and raises the cursor. -/
theorem State.leads_sweepVisit {s : State} {j : SweepJob} (h : s.sweep.cursor < 48) :
    s.Leads P ((s.sweepTest j ⟨s.sweep.cursor, h⟩).sweepAdvance) := by
  have advance (u v : State) (hu : u.Leads P (v.withSweep v.sweep.advanced)) : u.Leads P v.sweepAdvance := by
    rw [sweepAdvance_eq]
    split
    · exact hu.trans (leads_raisePart _ _)
    · exact hu
  refine advance _ _ ?_
  unfold sweepTest
  simp only
  split
  · obtain ⟨acts, hacts⟩ : ∃ acts, acts = j.action.acts (s.record ⟨s.sweep.cursor, h⟩).state := ⟨_, rfl⟩
    have counts : s.Leads P (s.withSweep (s.sweep.counting acts).advanced) :=
      s.leads_setSweep fun hs => SweepEngine.inRange_counting hs h acts
    have act := counts.trans (leads_sweepAct _ ⟨s.sweep.cursor, h⟩ j.action)
    rw [withSweep_sweepAct] at act
    rw [← hacts]
    have mid := s.withSweep_sweepAct (s.sweep.counting acts) ⟨s.sweep.cursor, h⟩ j.action
    have swept : { s with
        sweep.matched := s.sweep.matched + 1
        sweep.acted := if acts = true then s.sweep.acted + 1 else s.sweep.acted } = s.withSweep (s.sweep.counting acts) := rfl
    rw [swept, mid]
    exact act
  · exact s.leads_setSweep fun hs => SweepEngine.inRange_advanced hs h

theorem execSweepVisit_evolves (h : execSweepVisit s = .next t) : s.Evolves t := by
  refine takeEvent_evolves ?_ h
  split
  · split
    · split
      next cursor => exact (State.leads_sweepVisit cursor).evolves_grants.arbitrate
      next => exact .refl s
    · exact .refl s
  · exact .refl s

theorem execSweep_evolves (h : execSweep s = .next t) : s.Evolves t := by
  refine commandEvent_evolves ?_ h
  split
  · exact s.evolves_refuse _
  next j _ =>
    split
    · exact s.evolves_refuse _
    · exact ((s.leads_setSweep (w := ⟨true, some j, 0, 0, 0, false⟩) fun _ =>
        ⟨Nat.zero_le _, Nat.le_refl _, Nat.le_refl _, fun _ => by simp [Config.sweepEnd]⟩).evolves rfl).post _ _

theorem execAbortSweep_evolves (h : execAbortSweep s = .next t) : s.Evolves t := by
  refine commandEvent_evolves ?_ h
  split
  · have stops : s.Leads s.premises { s with sweep.running := false, sweep.aborted := true } :=
      s.leads_setSweep (w := { s.sweep with running := false, aborted := true }) fun ⟨h1, h2, h3, _⟩ =>
        ⟨h1, h2, h3, fun h => by cases h⟩
    exact ((stops.trans (State.leads_raisePart _ _)).evolves (State.raisePart_tags ..)).post _ _
  · exact (State.Evolves.refl s).post _ _

end

section
variable {s t : State} {P : Premises}

/-! ### The host port and the commands that read -/

theorem State.leads_setHost (s : State) (x : HostPort) : s.Leads P { s with host := x } := leads_part {} {}

theorem State.evolves_setHost (s : State) (x : HostPort) : s.Evolves { s with host := x } := (s.leads_setHost x).evolves rfl

theorem execStatusWindowRead_evolves {address : BitVec 7} {length : Nat}
    (h : execStatusWindowRead address length s = .next t) : s.Evolves t := by
  refine takeEvent_evolves ?_ h
  simp only
  split
  · exact s.evolves_setHost _
  · exact s.evolves_setHost _

theorem execCommandWrite_evolves {data : List Byte} (h : execCommandWrite data s = .next t) : s.Evolves t := by
  refine takeEvent_evolves ?_ h
  split
  · exact s.evolves_setHost _
  · exact s.evolves_setHost _

theorem execGo_evolves {data : List Byte} (h : execGo data s = .next t) : s.Evolves t := by
  refine takeEvent_evolves ?_ h
  split
  · exact s.evolves_setHost _
  · exact s.evolves_setHost _

theorem execUnknownCommand_evolves (h : execUnknownCommand s = .next t) : s.Evolves t := by
  refine takeEvent_evolves ?_ h
  split
  · exact s.evolves_refuse _
  · exact .refl s

theorem execStatus_evolves (h : execStatus s = .next t) : s.Evolves t := by
  refine commandEvent_evolves ?_ h
  split
  · exact s.evolves_refuse _
  next clear _ =>
    have report : s.Evolves (s.post .ok s.statusBytes).writeTiming :=
      ((State.Evolves.refl s).post _ _).andThen (State.leads_setHost _ _)
    simp only
    split
    · exact report.andThen (State.leads_part {} { counts := fun ⟨h1, _⟩ =>
        ⟨h1, by simp [TrunkCounters.inRange, TrunkCounters.zero]⟩ })
    · exact report

theorem State.evolves_postSnapshot (s : State) (b : BindingNo) (clear : Bool) : s.Evolves (s.postSnapshot b clear) := by
  have posted := (Evolves.refl s).post .ok (s.snapshot b)
  unfold postSnapshot
  simp only
  split
  · exact posted.andThen (leads_clearCounters _ b)
  · exact posted

theorem execReadRecord_evolves (h : execReadRecord s = .next t) : s.Evolves t := by
  refine commandEvent_evolves ?_ h
  split
  · exact s.evolves_postSnapshot _ _
  · exact s.evolves_refuse _

theorem execLookupKey_evolves (h : execLookupKey s = .next t) : s.Evolves t := by
  refine commandEvent_evolves ?_ h
  split
  · split
    · exact s.evolves_postSnapshot _ _
    · exact s.evolves_refuse _
  · exact s.evolves_refuse _

theorem execLookupTag_evolves (h : execLookupTag s = .next t) : s.Evolves t := by
  refine commandEvent_evolves ?_ h
  split
  · split
    · exact s.evolves_postSnapshot _ _
    · exact s.evolves_refuse _
    · exact s.evolves_refuse _
  · exact s.evolves_refuse _

/-! ### PROVISION -/

/-- R75: a fixed tag that can be taken out is FREE and ready. -/
theorem State.takeOutRefusal_none {s : State} {x : Tag} (h : s.takeOutRefusal (some x) = none) :
    (∃ age, s.tagEntry x = .free age) ∧ s.tagReady x = true := by
  unfold takeOutRefusal at h
  simp only at h
  split at h
  next age entry =>
    split at h
    next ready => exact ⟨⟨age, entry⟩, ready⟩
    next => cases h
  all_goals cases h

/-- R58: a provisioned record with its lease running. -/
def BindingRecord.provisioned (k : Key) (c : ClassNo) (pinned : Bool) (lease : Nat) : BindingRecord :=
  { BindingRecord.provisionedAs k c pinned with lease := some lease }

theorem State.startLease_provisioned (s : State) (b : BindingNo) (k : Key) (c : ClassNo) (pinned : Bool) :
    (s.updateRecord b fun _ => BindingRecord.provisionedAs k c pinned).startLease b =
      s.putRecord b (.provisioned k c pinned s.classes[c].leaseLength) := by
  rw [startLease_eq, updateRecord_eq, putRecord_putRecord, record_putRecord_self]
  simp only [classOf, record_putRecord_self]
  rfl

theorem BindingRecord.keeps_provisioned (cs : Vector PolicyClass 4) (r : BindingRecord) (k : Key) (c : ClassNo) (pinned : Bool) :
    r.Keeps cs (.provisioned k c pinned cs[c].leaseLength) where
  range _ := by simp [inRange, provisioned, provisionedAs, BindingRecord.free]
  bounds hs _ := ⟨fun n hn => by cases hn; exact (hs c).2.2.2.2, by simp [provisioned, provisionedAs, BindingRecord.free],
    by simp [provisioned, provisionedAs, BindingRecord.free]⟩
  lease _ := rfl
  reason _ h := by cases h

/-- R58: the creation of a provisioned record. -/
theorem State.leads_provisioned {s : State} {b : BindingNo} {k : Key} (c : ClassNo) (pinned : Bool)
    (unknown : s.resolveKey k = none) (free : (s.record b).state = .free) :
    s.Leads P (s.putRecord b (.provisioned k c pinned s.classes[c].leaseLength)) :=
  (Move.create b _ free (resolveKey_none unknown) rfl rfl rfl rfl rfl (BindingRecord.keeps_provisioned ..)).leads rfl

/-- R59, R75: a record takes its fixed tag out of the free list. -/
theorem State.reaches_holdFixed {s : State} {b : BindingNo} {x : Tag} (entry : ∃ age, s.tagEntry x = .free age)
    (state : (s.record b).state = .candidate) (origin : (s.record b).origin = .provisioned) (tag : (s.record b).tag = none)
    (phase : (s.record b).phase = .none) (geometry : (s.record b).geometry = none) : s.Reaches P (s.holdTag b x) := by
  rw [holdTag_eq]
  exact (Move.take b x s.tags.waitQueue { s.record b with tag := some x } entry (.inl ⟨rfl, state⟩)
    { state := .inr ⟨state, state⟩, tag := rfl, phase := phase, inFlight := rfl, key := rfl }
    (fun _ _ => tag)
    fun _ _ => ⟨fun _ => geometry, fun h => by simp [state, RecordState.holdsTag] at h, fun _ h => by simp [origin] at h⟩).reaches

/-- R73: a tag taken from behind a head that is not ready leaves the head. -/
theorem State.headLaw_holdFixed {s : State} {b : BindingNo} {x : Tag} (ready : s.tagReady x = true) (head : s.HeadLaw) :
    (s.holdTag b x).HeadLaw := by
  have tags : (s.holdTag b x).tags = { s.tags with
      table := s.tags.table.set x (.held b), freeList := s.tags.freeList.erase x } := by rw [holdTag_eq]; rfl
  rcases head with wait | notReady
  · exact .inl (by rw [tags]; exact wait)
  refine .inr fun y rest hy => ?_
  rw [tags] at hy
  cases hl : s.tags.freeList with
  | nil => rw [hl] at hy; cases hy
  | cons z rest' =>
    have other : z ≠ x := fun e => by
      have := notReady z rest' hl
      rw [e, ready] at this
      cases this
    rw [hl, List.erase_cons_tail (by simpa using other)] at hy
    obtain ⟨rfl, _⟩ := List.cons.inj hy
    have same : (s.holdTag b x).tagReady z = s.tagReady z := by
      have entry : (s.holdTag b x).tagEntry z = s.tagEntry z := by
        rw [tagEntry_set (s := s) (by rw [tags]), if_neg other]
      unfold tagReady
      rw [entry, tags]
    rw [same]
    exact notReady z rest' hl

theorem State.evolves_provisionWith (s : State) (k : Key) (c : ClassNo) (pinned : Bool) (x : Option Tag) :
    s.Evolves (s.provisionWith k c pinned x) := by
  unfold provisionWith
  split
  · exact s.evolves_refuse _
  · exact s.evolves_refuse _
  · exact s.evolves_refuse _
  next b unknown found takes =>
    refine State.Evolves.post ?_ _ _
    have create := leads_provisioned (P := s.premises) c pinned unknown (lowestFree_some found)
    unfold createProvisioned
    simp only [startLease_provisioned]
    cases x with
    | none => exact create.evolves rfl
    | some x =>
      obtain ⟨entry, ready⟩ := takeOutRefusal_none takes
      refine ⟨create.reaches.trans (reaches_holdFixed entry ?_ ?_ ?_ ?_ ?_), fun _ _ head => ?_⟩
      · rw [record_putRecord_self]; rfl
      · rw [record_putRecord_self]; rfl
      · rw [record_putRecord_self]; rfl
      · rw [record_putRecord_self]; rfl
      · rw [record_putRecord_self]; rfl
      · exact headLaw_holdFixed (by exact ready) (head.congr rfl)

theorem execProvision_evolves (h : execProvision s = .next t) : s.Evolves t := by
  refine commandEvent_evolves ?_ h
  split
  · exact s.evolves_provisionWith _ _ _ _
  · exact s.evolves_refuse _

/-! ### MODIFY, RETIRE, RELEASE TAG and the attention commands -/

theorem execModify_evolves (h : execModify s = .next t) : s.Evolves t := by
  refine commandEvent_evolves ?_ h
  split
  next b c pinned _ _ _ =>
    split
    · exact s.evolves_refuse _
    · exact s.evolves_refuse _
    · exact ((State.leads_updateRecord (b := b) (f := fun r => { r with cls := c, pinned := pinned }) {}).evolves rfl).post _ _
  · exact s.evolves_refuse _

theorem execRetire_evolves (h : execRetire s = .next t) : s.Evolves t := by
  refine commandEvent_evolves ?_ h
  split
  · exact s.evolves_refuse _
  next b _ =>
    split
    · exact s.evolves_refuse _
    · exact s.evolves_refuse _
    · exact (State.Evolves.refl s).post _ _
    · exact (s.leads_beginRetirement b _).evolves_grants.arbitrate.post _ _

theorem execReleaseTag_evolves (h : execReleaseTag s = .next t) : s.Evolves t := by
  refine commandEvent_evolves ?_ h
  split
  · exact s.evolves_refuse _
  next x _ =>
    split
    next q entry =>
      exact ((State.Move.releaseStranded x q entry).leads_of_calm fun _ => s.calm_releaseTag x).evolves_grants.arbitrate.post _ _
    · exact s.evolves_refuse _
    · exact s.evolves_refuse _

theorem execNextAttention_evolves (h : execNextAttention s = .next t) : s.Evolves t := by
  refine commandEvent_evolves ?_ h
  split
  · exact (State.Evolves.refl s).post _ _
  · split
    · exact (State.evolves_part {} {}).post _ _
    · exact (State.Evolves.refl s).post _ _

/-- R175, R120: an acknowledgement of a RETIRED record's reason frees it; another clears reasons that R169 does not ask for. -/
theorem State.leads_ackRecord (s : State) (b : BindingNo) (mask : BitVec 5) : s.Leads P (s.ackRecord b mask) := by
  unfold ackRecord
  split
  next h => exact leads_goFree h.1
  next h =>
    refine leads_updateRecord { reason := fun fits state => ?_ }
    have clear : mask &&& RecordReason.retired.mask = 0#5 := by
      by_contra hm
      exact h ⟨state, hm⟩
    have keep : ∀ r m : BitVec 5, m &&& RecordReason.retired.mask = 0#5 → r &&& RecordReason.retired.mask ≠ 0#5 →
        r &&& ~~~m &&& RecordReason.retired.mask ≠ 0#5 := by decide
    exact keep _ _ clear (fits state)

theorem State.ackRecord_tags (s : State) (b : BindingNo) (mask : BitVec 5) : (s.ackRecord b mask).tags = s.tags := by
  unfold ackRecord
  split <;> rfl

theorem execAckAttention_evolves (h : execAckAttention s = .next t) : s.Evolves t := by
  refine commandEvent_evolves ?_ h
  split
  · split
    · exact (State.evolves_part {} {}).post _ _
    · exact s.evolves_refuse _
  · split
    · exact ((s.leads_ackRecord _ _).evolves (s.ackRecord_tags _ _)).post _ _
    · exact s.evolves_refuse _

/-! ### Settings, links and the session -/

theorem within_some {lo hi n k : Nat} (h : within lo hi n = some k) : lo ≤ k ∧ k ≤ hi := by
  unfold within at h
  split at h
  next hn => cases h; exact hn
  next => cases h

/-- Table 1-F: the operands of a SET CLASS are in range. -/
theorem State.classOperands_inRange {s : State} {c : ClassNo} {p : PolicyClass} (h : s.classOperands = some (c, p)) :
    p.inRange := by
  simp only [classOperands, Option.bind_eq_bind, Option.bind_eq_some_iff, Option.pure_def] at h
  obtain ⟨_, _, _, h1, _, h2, _, h3, _, h4, _, _, e⟩ := h
  obtain ⟨_, rfl⟩ := Prod.mk.inj (Option.some.inj e)
  exact ⟨within_some h1, within_some h2, within_some h3, within_some h4⟩

theorem execSetClass_evolves (h : execSetClass s = .next t) : s.Evolves t := by
  refine commandEvent_evolves ?_ h
  split
  · exact s.evolves_refuse _
  next c p operands =>
    refine (State.evolves_part {} { settings := fun ⟨h1, h2⟩ => ⟨fun d => ?_, h2⟩ }).post _ _
    by_cases same : c.val = d.val
    · simpa [same] using State.classOperands_inRange operands
    · simpa [same] using h1 d

theorem State.leads_enableLink (s : State) (l : LinkNo) : s.Leads P (s.enableLink l) := by
  unfold enableLink
  split
  · exact (leads_updateFeeder id fun _ h => .inl h).trans (leads_raisePart _ _)
  · exact .refl s

theorem State.enableLink_tags (s : State) (l : LinkNo) : (s.enableLink l).tags = s.tags := by
  unfold enableLink
  split
  · exact raisePart_tags ..
  · rfl

theorem State.leads_abandonFrame (s : State) (l : LinkNo) : s.Leads P (s.abandonFrame l) := by
  unfold abandonFrame
  split
  · exact (leads_returnCells s _).trans (leads_updateFeeder id fun _ h => by cases h)
  · exact .refl s

theorem State.leads_switchOff (s : State) (l : LinkNo) : s.Leads P (s.switchOff l) := by
  unfold switchOff
  split
  · exact .refl s
  · exact (leads_updateFeeder id fun _ h => .inl h).trans (leads_raisePart _ _)

/-- R123: retirements begin, one record after another. -/
theorem State.leads_beginRetirements (l : List BindingNo) (c : RetireCause) (s : State) :
    s.Leads P (l.foldl (fun s b => s.beginRetirement b c) s) := by
  induction l generalizing s with
  | nil => exact .refl s
  | cons b l ih => exact (s.leads_beginRetirement b c).trans (ih _)

theorem State.leads_disableLink (s : State) (l : LinkNo) : s.Leads P (s.disableLink l) :=
  ((s.leads_abandonFrame l).trans (leads_switchOff _ l)).trans (leads_beginRetirements _ _ _)

theorem execSetLink_evolves (h : execSetLink s = .next t) : s.Evolves t := by
  refine commandEvent_evolves ?_ h
  split
  next l enable c _ _ _ =>
    have first : s.Leads s.premises (s.updateFeeder l fun f => { f with defaultClass := c }) :=
      State.leads_updateFeeder id fun _ h => .inl h
    simp only
    refine State.Evolves.post ?_ _ _
    split
    · exact (first.trans (State.leads_enableLink _ l)).evolves (State.enableLink_tags ..)
    · exact (first.trans (State.leads_disableLink _ l)).evolves_grants.arbitrate
  next => exact s.evolves_refuse _

theorem execReadLink_evolves (h : execReadLink s = .next t) : s.Evolves t := by
  refine commandEvent_evolves ?_ h
  split
  next l clear _ _ =>
    have posted := (State.Evolves.refl s).post .ok (linkBytes l (s.feeder l))
    simp only
    split
    · exact posted.andThen (State.leads_updateFeeder (fun _ => by simp [FeederLink.inRange, FeederLink.clearCounters])
        fun _ h => .inl h)
    · exact posted
  next => exact s.evolves_refuse _

theorem execSetTiming_evolves (h : execSetTiming s = .next t) : s.Evolves t := by
  refine commandEvent_evolves ?_ h
  split
  next timeout holdOff threshold h1 h2 h3 =>
    refine (State.evolves_grantEvent {} {
      settings := fun ⟨g1, g2, ⟨g3, _⟩, _, g5⟩ => ⟨g1, g2, ⟨g3, ?_⟩, within_some h1, g5⟩ }).arbitrate.post _ _
    exact ⟨(within_some h2).2, within_some h3⟩
  next => exact s.evolves_refuse _

theorem execSetAttentionEnables_evolves (h : execSetAttentionEnables s = .next t) : s.Evolves t := by
  refine commandEvent_evolves ?_ h
  split
  · exact (State.evolves_part {} {}).post _ _
  · exact s.evolves_refuse _

theorem execTrunkOpen_evolves (h : execTrunkOpen s = .next t) : s.Evolves t := by
  refine commandEvent_evolves ?_ h
  split
  · exact ((((s.leads_setSession .opening).trans (State.leads_issueHello _)).trans (State.leads_raisePart _ _)).evolves
      (State.raisePart_tags ..)).arbitrate.post _ _
  all_goals exact s.evolves_refuse _

theorem State.evolves_closeSession (s : State) : s.Evolves s.closeSession.arbitrate :=
  (s.leads_closeSession.evolves (s.sessionLoss_tags .closed)).arbitrate

theorem execTrunkClose_evolves (h : execTrunkClose s = .next t) : s.Evolves t := by
  refine commandEvent_evolves ?_ h
  split
  · exact (State.Evolves.refl s).post _ _
  · exact (s.leads_closeFailed.evolves (State.raisePart_tags ..)).post _ _
  all_goals exact s.evolves_closeSession.post _ _

/-! ### Every command -/

/-- What every command does. -/
theorem exec_evolves {c : Instr} (h : exec c s = .next t) : s.Evolves t := by
  cases c with
  | openMarker => exact execOpenMarker_evolves h
  | cellMarker => exact execCellMarker_evolves h
  | frameClose => exact execFrameClose_evolves h
  | lineLock => exact execLineLock_evolves h
  | lockLoss => exact execLockLoss_evolves h
  | leaseExpiry => exact execLeaseExpiry_evolves h
  | holdOffExpiry => exact execHoldOffExpiry_evolves h
  | sendCompletion => exact execSendCompletion_evolves h
  | noticeEnd => exact execNoticeEnd_evolves h
  | lineUp => exact execLineUp_evolves h
  | lineDown => exact execLineDown_evolves h
  | credit => exact execCredit_evolves h
  | helloAck => exact execHelloAck_evolves h
  | ack => exact execAck_evolves h
  | nak => exact execNak_evolves h
  | resyncRequest => exact execResyncRequest_evolves h
  | helloTimerExpiry => exact execHelloTimerExpiry_evolves h
  | noticeTimerExpiry => exact execNoticeTimerExpiry_evolves h
  | sweepVisit => exact execSweepVisit_evolves h
  | statusWindowRead => exact execStatusWindowRead_evolves h
  | commandWrite => exact execCommandWrite_evolves h
  | go data => exact execGo_evolves (data := data) h
  | unknownCommand => exact execUnknownCommand_evolves h
  | status => exact execStatus_evolves h
  | readRecord => exact execReadRecord_evolves h
  | lookupKey => exact execLookupKey_evolves h
  | lookupTag => exact execLookupTag_evolves h
  | provision => exact execProvision_evolves h
  | modify => exact execModify_evolves h
  | retire => exact execRetire_evolves h
  | releaseTag => exact execReleaseTag_evolves h
  | nextAttention => exact execNextAttention_evolves h
  | ackAttention => exact execAckAttention_evolves h
  | setClass => exact execSetClass_evolves h
  | setLink => exact execSetLink_evolves h
  | readLink => exact execReadLink_evolves h
  | setTiming => exact execSetTiming_evolves h
  | setAttentionEnables => exact execSetAttentionEnables_evolves h
  | trunkOpen => exact execTrunkOpen_evolves h
  | trunkClose => exact execTrunkClose_evolves h
  | sweep => exact execSweep_evolves h
  | abortSweep => exact execAbortSweep_evolves h
  | restart => exact execRestart_evolves h
  | resetAssertion => exact execResetAssertion_evolves h
  | powerOnReset => exact execPowerOnReset_evolves h
  | timebaseTick => exact execTimebaseTick_evolves h
  | unrecognisedMarker | ignoredWrite => exact takeEvent_evolves (f := id) (.refl s) h
  | discardedReturnMessage => exact returnEvent_evolves (f := id) (.refl s) h

/-- What a step does: it takes the command at the front of the queue, or idles. -/
theorem step_evolves (h : step s = .next t) : s.Evolves t := by
  unfold step at h
  split at h
  · obtain rfl := Host.Outcome.next.inj h
    exact .refl s
  next c rest _ =>
    have taken : s.Move s.premises { s with pending := rest } := .part {} {}
    obtain ⟨reaches, head⟩ := exec_evolves h
    exact ⟨taken.reaches.trans reaches, head⟩

end

/-! ### The laws after every step -/

section
variable {s t : State}

theorem State.Evolves.noticeLaw (h : s.Evolves t) (hn : s.NoticeLaw) : t.NoticeLaw := h.reaches.noticeLaw hn hn

theorem State.Evolves.windowLaw (h : s.Evolves t) (hn : s.NoticeLaw) : s.WindowLaw → t.WindowLaw :=
  h.reaches.keeps_under_noticeLaw (fun _ _ m => m.windowLaw) hn hn

theorem State.Evolves.flightLaw (h : s.Evolves t) (hn : s.NoticeLaw) : s.FlightLaw → t.FlightLaw :=
  h.reaches.keeps_under_noticeLaw (fun _ _ m => m.flightLaw hn) hn hn

theorem State.Evolves.keyLaw (h : s.Evolves t) (hn : s.NoticeLaw) : s.KeyLaw → t.KeyLaw :=
  h.reaches.keeps_under_noticeLaw (fun _ _ m => m.keyLaw) hn hn

theorem State.Evolves.holdingLaw (h : s.Evolves t) (hn : s.NoticeLaw) : s.HoldingLaw → t.HoldingLaw :=
  h.reaches.keeps_under_noticeLaw (fun _ _ m => m.holdingLaw) hn hn

theorem State.Evolves.tagLaw (h : s.Evolves t) (hn : s.NoticeLaw) (ht : s.TagLaw) : t.TagLaw :=
  h.reaches.keeps_under_noticeLaw (fun _ _ m => m.tagLaw ⟨hn, ht⟩) hn hn ht

end

/-- Settles O53: every step is a sequence of moves, and every move keeps the capacities and ranges; in-flight is bounded by the
egress queue, whose descriptors it counts. -/
theorem capacityAndRangeLawsKept : Obligations.CapacityAndRangeLawsKept := by
  intro s t h
  have e := step_evolves h
  refine ⟨fun hc hr => ⟨e.reaches.capacityLaw hc, e.reaches.rangeLaw hr⟩, e.reaches.boundLaw, e.windowLaw, ?_⟩
  exact fun hc _ hn hf => State.inFlight_le (e.flightLaw hn hf) (e.reaches.capacityLaw hc)

/-- Settles O54: every move of a record keeps its lease running in the states of R15 and the reason of R169 pending. -/
theorem leaseAndReasonLawsKept : Obligations.LeaseAndReasonLawsKept := by
  intro s t hl hr h
  have e := step_evolves h
  exact ⟨e.reaches.leaseLaw hl, e.reaches.reasonLaw hr⟩

/-- Settles O56: every move puts a record on the list that its new state or phase names, and off the one it leaves. -/
theorem noticeLawKept : Obligations.NoticeLawKept := fun _ _ hn h => (step_evolves h).noticeLaw hn

/-- Settles O57: only a creation makes a record active, and its key is one that no active record holds. -/
theorem keyLawKept : Obligations.KeyLawKept := fun _ _ hn hk h => (step_evolves h).keyLaw hn hk

/-- Settles O58: the moves keep tags and records in agreement, and an event that makes a tag ready grants it or leaves no record
waiting. -/
theorem tagLawKept : Obligations.TagLawKept := by
  intro s t hn h
  have e := step_evolves h
  exact ⟨fun ht => ⟨e.tagLaw hn ht, e.head hn ht⟩, e.holdingLaw hn⟩

/-- Settles O59: a record's count changes only as its descriptors join and leave the egress queue. -/
theorem flightLawKept : Obligations.FlightLawKept := fun _ _ hn hf h => (step_evolves h).flightLaw hn hf

end Sys2Proof.Machine

namespace Sys2Proof.Machine

set_option Elab.async false

/-! ### Power-on reset -/

theorem State.record_reset (b : BindingNo) : State.reset.record b = .free := record_replicate_free rfl b

theorem State.feeder_reset (l : LinkNo) : State.reset.feeder l = .initial := by simp [State.reset, feeder]

theorem State.tagEntry_reset (x : Tag) : State.reset.tagEntry x = .free Config.maxAge := by
  simp [State.reset, tagEntry, TagManager.initial]

/-- R39: at reset every cell is free. -/
theorem State.cellLaw_reset : State.reset.CellLaw := by
  refine ⟨?_, fun l _ => by rw [feeder_reset]; rfl⟩
  have none (l : LinkNo) : ((State.reset.feeder l).frame.map OpenFrame.cellsHeld).getD 0 = 0 := by rw [feeder_reset]; rfl
  simp only [cellTotal, none]
  rfl

theorem State.rangeLaw_reset : State.reset.RangeLaw := by
  refine ⟨fun b => ?_, fun l => ?_, ?_⟩
  · rw [record_reset]; simp [BindingRecord.inRange, BindingRecord.free]
  · rw [feeder_reset]; simp [FeederLink.inRange, FeederLink.initial]
  · simp [State.reset, TrunkCounters.inRange, TrunkCounters.zero]

theorem State.boundLaw_reset : State.reset.BoundLaw := by
  refine ⟨fun b => ?_, fun c => ?_, fun l f h => ?_, ⟨fun x age h => ?_, ?_⟩, ?_, fun h hh => (by cases hh), ?_⟩
  · rw [record_reset]; simp [BindingRecord.inBounds, BindingRecord.free]
  · simp [State.reset, PolicyClass.inRange, PolicyClass.default]
  · rw [feeder_reset] at h; cases h
  · exact (TagEntry.free.inj ((tagEntry_reset x).symm.trans h)).ge
  · simp [State.reset, TagManager.initial, Config.maxAge]
  · simp [State.reset, NoticeUnit.initial]
  · simp [State.reset, SweepEngine.inRange, SweepEngine.initial]

theorem State.sessionLaw_reset : State.reset.SessionLaw :=
  ⟨fun _ => ⟨rfl, rfl, fun b => by rw [record_reset]; exact ⟨rfl, by simp [BindingRecord.free]⟩⟩, fun h => by cases h⟩

theorem State.windowLaw_reset : State.reset.WindowLaw := by simp [WindowLaw, State.reset, NoticeUnit.initial]

theorem State.capacityLaw_reset : State.reset.CapacityLaw := by
  simp [CapacityLaw, State.reset, Transmitter.initial, NoticeUnit.initial]

theorem State.leaseLaw_reset : State.reset.LeaseLaw := fun b => by rw [record_reset]; rfl

theorem State.reasonLaw_reset : State.reset.ReasonLaw := fun b h => by rw [record_reset] at h; cases h

theorem State.keyLaw_reset : State.reset.KeyLaw := fun b _ h => by rw [record_reset] at h; cases h

theorem State.holdingLaw_reset : State.reset.HoldingLaw :=
  (State.holdingLaw_iff _).mpr fun b => by rw [record_reset]; exact BindingRecord.holdingFits_free

/-- Settles O51: every record is FREE, every tag FREE, every list empty and the line DOWN. -/
theorem lawsHoldAtReset : Obligations.LawsHoldAtReset :=
  ⟨State.cellLaw_reset, State.capacityLaw_reset, State.rangeLaw_reset, State.boundLaw_reset, State.windowLaw_reset,
    State.leaseLaw_reset, State.reasonLaw_reset, State.sessionLaw_reset, State.noticeLaw_of_free rfl rfl rfl rfl,
    State.keyLaw_reset, State.tagLaw_of_free rfl rfl rfl rfl rfl, .inl rfl, State.holdingLaw_reset,
    State.flightLaw_of_free rfl fun _ h => (by cases h), rfl⟩

/-- R68: an age of 1023 is ready at every hold-off. -/
theorem State.tagReady_reset {holdOff : Nat} (h : holdOff ≤ 1023) (x : Tag) :
    { State.reset with tags.holdOff := holdOff }.tagReady x = true :=
  (tagReady_iff _ x).mpr ⟨⟨_, tagEntry_reset x, h⟩, .inl rfl⟩

theorem State.attentionSet_reset : State.reset.attentionSet = [] :=
  List.filter_eq_nil_iff.mpr fun b _ => by rw [record_reset]; decide

/-- Settles O3: the fields of `State.reset`, and what follows from them of its attention set and of a tag's readiness. -/
theorem resetValues : Obligations.ResetValues := by
  refine ⟨State.record_reset, fun c => by simp [State.reset, PolicyClass.default], State.feeder_reset, rfl, State.tagEntry_reset,
    rfl, rfl, rfl, rfl, rfl, fun _ x h => State.tagReady_reset h x, rfl, rfl, rfl, rfl, rfl, rfl, State.attentionSet_reset, ?_,
    rfl, rfl, fun i => ?_, fun i => ?_⟩
  · rw [State.attnLow, State.attentionSet_reset]
    rfl
  · simp [State.reset, HostPort.initial]
  · simp [State.reset, HostPort.initial]

/-! ### The timer family -/

theorem takeEvent_awake {s : State} (h : s.awake) (f : State → State) : takeEvent s f = .next (f s) := by
  rw [takeEvent, h]
  rfl

theorem State.releaseTagOf_untagged {s : State} {b : BindingNo} (h : (s.record b).tag = none) : s.releaseTagOf b = s := by
  rw [releaseTagOf, h]

/-- R61, R63: the lapse of a record without a tag. -/
theorem State.lapse_untagged {s : State} {b : BindingNo} (h : (s.record b).tag = none) :
    s.lapse b = { s with tags.waitQueue := s.tags.waitQueue.erase b }.putRecord b BindingRecord.free := by
  have same : ((s.leaveWaitQueue b).record b).tag = none := h
  rw [lapse, releaseTagOf_untagged same]
  rfl

/-- R103: entry to SILENT, its reason raised if it is enabled. -/
theorem State.enterSilent_eq (s : State) (b : BindingNo) : s.enterSilent b = s.putRecord b { s.record b with
    state := .silent, lease := none, run := 0, consecutiveBad := 0, faults := 0, trial := none
    reasons := s.reasonsAfter (s.record b).reasons 0x04#5 } := by
  rw [enterSilent, raiseRecord_eq, record_updateRecord_self, updateRecord_eq, putRecord_putRecord]
  rfl

theorem State.startLease_putRecord (s : State) {b : BindingNo} {r : BindingRecord} (h : r.cls = (s.record b).cls) :
    (s.putRecord b r).startLease b = s.putRecord b { r with lease := some (s.classOf b).leaseLength } := by
  simp only [startLease_eq, record_putRecord_self, putRecord_putRecord, classOf, h]
  rfl

section
variable {s : State} {b : BindingNo}

theorem State.expireLease_candidate (state : (s.record b).state = .candidate) : s.expireLease b =
    if (s.record b).origin == .learnt && !(s.record b).pinned then s.lapse b
    else (s.updateRecord b fun r => { r with run := 0 }).startLease b := by simp only [expireLease, state]

theorem State.expireLease_candidate_kept (state : (s.record b).state = .candidate)
    (kept : (s.record b).origin = .provisioned ∨ (s.record b).pinned = true) : s.expireLease b =
      s.putRecord b { s.record b with run := 0, lease := some (s.classOf b).leaseLength } := by
  rw [expireLease_candidate state, if_neg (by rcases kept with h | h <;> simp [h])]
  exact s.startLease_putRecord (r := { s.record b with run := 0 }) rfl

theorem State.expireLease_tagWait (state : (s.record b).state = .tagWait) :
    s.expireLease b = if (s.record b).pinned then s.startLease b else s.lapse b := by simp only [expireLease, state]

theorem State.expireLease_forwarding (state : (s.record b).state = .live ∨ (s.record b).state = .suspended) :
    s.expireLease b = if (s.record b).pinned then s.enterSilent b else s.beginRetirement b .lease := by
  rcases state with state | state <;> simp only [expireLease, state]

/-- R15: an expiry that stands is taken, with the grants of its releases and the arbiter's choice. -/
theorem execLeaseExpiry_due (awake : s.awake) (lease : (s.record b).lease = some 0) :
    exec (.leaseExpiry b) s = .next ((s.expireLease b).grantIfReleased s).arbitrate :=
  (takeEvent_awake awake _).trans (by rw [if_pos lease])

/-- An expiry that leaves the free list as it is grants nothing. -/
theorem execLeaseExpiry_of_eq {u : State} (awake : s.awake) (lease : (s.record b).lease = some 0)
    (h : s.expireLease b = u) (freeList : u.tags.freeList = s.tags.freeList) :
    exec (.leaseExpiry b) s = .next u.arbitrate := by
  rw [execLeaseExpiry_due awake lease, h, State.grantIfReleased_of_le (by rw [freeList])]

end

/-- Settles O21: the branches of `State.expireLease`, of which only a retirement can release a tag. -/
theorem leaseExpiryBranches : Obligations.LeaseExpiryBranches := by
  intro s b awake
  refine ⟨fun lease => (takeEvent_awake awake _).trans (by rw [if_neg lease]), fun lease => ⟨?_, ?_, ?_, ?_, ?_, ?_⟩⟩
  · intro state origin pinned tag
    refine execLeaseExpiry_of_eq awake lease ?_ rfl
    rw [State.expireLease_candidate state, if_pos (by simp [origin, pinned]), State.lapse_untagged tag]
  · exact fun state kept => execLeaseExpiry_of_eq awake lease (State.expireLease_candidate_kept state kept) rfl
  · intro state pinned tag
    refine execLeaseExpiry_of_eq awake lease ?_ rfl
    rw [State.expireLease_tagWait state, if_neg (by simp [pinned]), State.lapse_untagged tag]
  · intro state pinned
    refine execLeaseExpiry_of_eq awake lease ?_ rfl
    rw [State.expireLease_tagWait state, if_pos pinned, State.startLease_eq]
  · intro state pinned
    rw [execLeaseExpiry_due awake lease, State.expireLease_forwarding state, if_neg (by simp [pinned])]
  · intro state pinned
    refine execLeaseExpiry_of_eq awake lease ?_ rfl
    rw [State.expireLease_forwarding state, if_pos pinned, State.enterSilent_eq]

/-! ### The timebase -/

/-- R70: the head of the free list has reached the hold-off. -/
theorem State.headReached_iff (s : State) : s.headReached = true ↔
    ∃ x rest age, s.tags.freeList = x :: rest ∧ s.tagEntry x = .free age ∧ s.tags.holdOff ≤ age := by
  unfold headReached
  cases s.tags.freeList with
  | nil => simp
  | cons x rest => cases h : s.tagEntry x <;> simp [h]

/-- R70, log 3: the head of the free list becomes ready at a tick. -/
theorem State.headReached_at_tick (s : State) : (!s.headReached && s.advance.headReached) = true ↔
    ∃ x rest age, s.tags.freeList = x :: rest ∧ s.tagEntry x = .free age ∧ age < s.tags.holdOff ∧
      s.tags.holdOff ≤ min (age + 1) 1023 := by
  have before := s.headReached_iff
  have after := s.advance.headReached_iff
  have freeList : s.advance.tags.freeList = s.tags.freeList := rfl
  have holdOff : s.advance.tags.holdOff = s.tags.holdOff := rfl
  rw [Bool.and_eq_true, Bool.not_eq_true', Bool.eq_false_iff, ne_eq, before, after]
  simp only [freeList, holdOff, tagEntry_advance]
  constructor
  · rintro ⟨no, x, rest, age, hx, entry, le⟩
    cases he : s.tagEntry x with
    | free old =>
      rw [he] at entry
      cases entry
      exact ⟨x, rest, old, hx, he, Nat.lt_of_not_le fun h => no ⟨x, rest, old, hx, he, h⟩, le⟩
    | held | stranded => rw [he] at entry; cases entry
  · rintro ⟨x, rest, age, hx, entry, lt, le⟩
    refine ⟨?_, x, rest, _, hx, by rw [entry]; rfl, le⟩
    rintro ⟨y, rest', age', hy, entry', le'⟩
    obtain ⟨rfl, _⟩ := List.cons.inj (hx.symm.trans hy)
    cases entry.symm.trans entry'
    exact absurd le' (Nat.not_le.mpr lt)

/-- The state after a tick: the flag of a standing hold-off expiry stands on, or rises (log 3). -/
theorem State.tick_eq (s : State) (rises : Bool) : (if rises then { s.advance with tags.holdOffDue := true } else s.advance) =
    { s.advance with tags := { s.advance.tags with holdOffDue := s.tags.holdOffDue || rises } } := by
  cases rises with
  | true => simp
  | false => simp; rfl

/-- R68: the age of a FREE tag rises by 1 up to 1023. -/
theorem TagEntry.tick_eq (e : TagEntry) : e.tick = match e with
    | .free age => .free (if age < 1023 then age + 1 else 1023)
    | .held b => .held b
    | .stranded q => .stranded q := by
  cases e with
  | free age =>
    have : min (age + 1) Config.maxAge = if age < 1023 then age + 1 else 1023 := by
      simp only [Config.maxAge]
      split <;> omega
    rw [TagEntry.tick, this]
  | held | stranded => rfl

theorem execTimebaseTick_eq {s : State} (awake : s.awake) : exec .timebaseTick s = .next { s.advance with
    tags := { s.advance.tags with holdOffDue := s.tags.holdOffDue ||
      (!s.headReached && s.advance.headReached && !s.tags.waitQueue.isEmpty) } } := by
  rw [← s.tick_eq]
  show execTimebaseTick s = _
  rw [execTimebaseTick, takeEvent_awake awake]

/-- Settles O22: a tick is `State.advance`, with the flag of a standing hold-off expiry raised where the head becomes ready. -/
theorem timebaseTickCounts : Obligations.TimebaseTickCounts := by
  intro s awake
  refine ⟨_, execTimebaseTick_eq awake, fun b => s.record_advance b, fun x => ?_, rfl, rfl, ?_, rfl⟩
  · exact (s.tagEntry_advance x).trans (TagEntry.tick_eq _)
  · have rises := s.headReached_at_tick
    show (s.tags.holdOffDue || (!s.headReached && s.advance.headReached && !s.tags.waitQueue.isEmpty)) = true ↔ _
    rw [Bool.or_eq_true, Bool.and_eq_true, rises, Bool.not_eq_true', List.isEmpty_eq_false_iff, and_comm]

/-! ### The record snapshot (Table 11-G) -/

theorem toNat_byteOf {n : Nat} (h : n < 256) : (byteOf n).toNat = n := by
  rw [byteOf, BitVec.toNat_ofNat]
  exact Nat.mod_eq_of_lt h

/-- A 16-bit value in two bytes, high byte first. -/
theorem toNat_bytes16 {n : Nat} (h : n < 65536) : ((BitVec.ofNat 16 n).extractLsb' 8 8).toNat = n / 256 ∧
    ((BitVec.ofNat 16 n).extractLsb' 0 8).toNat = n % 256 := by
  simp only [BitVec.extractLsb'_toNat, BitVec.toNat_ofNat, Nat.shiftRight_eq_div_pow]
  omega

/-- A 32-bit counter recovers from its four bytes (R19). -/
theorem counter_of_bytes32 {n : Nat} (h : n ≤ counterMax) : (byteOf (n / 16777216)).toNat * 16777216 +
    (byteOf (n / 65536)).toNat * 65536 + (byteOf (n / 256)).toNat * 256 + (byteOf n).toNat = n := by
  simp only [byteOf, BitVec.toNat_ofNat]
  simp only [counterMax] at h
  omega

theorem RecordState.code_lt (x : RecordState) : x.code < 16 := by cases x <;> decide

theorem NoticePhase.code_lt (x : NoticePhase) : x.code < 8 := by cases x <;> decide

theorem causeCode_lt (x : Option RetireCause) : causeCode x < 8 := by
  cases x with
  | none => decide
  | some x => cases x <;> decide

theorem flagNat_lt (x : Bool) : flagNat x < 2 := by cases x <;> decide

theorem tagCode_lt (x : Option Tag) : (x.map Tag.number).getD 0 < 32 := by
  cases x with
  | none => decide
  | some x => simp only [Option.map_some, Option.getD_some, Tag.number]; omega

theorem formatCode_lt (x : Option Geometry) : (x.map fun g => g.format.val).getD 0 < 16 := by
  cases x with
  | none => decide
  | some g => exact g.format.isLt

theorem cellsCode_lt {x : Option Geometry} (h : ∀ g, x = some g → g.cells ≤ 96) : (x.map (·.cells)).getD 0 < 128 := by
  cases x with
  | none => decide
  | some g => exact (h g rfl).trans_lt (by decide)

theorem leaseCode_lt {x : Option Nat} (h : ∀ n, x = some n → n ≤ 4095) : x.getD 0 < 4096 := by
  cases x with
  | none => decide
  | some n => exact (h n rfl).trans_lt (by decide)

/-- Two values packed in a byte, the lower one in the bits below `k`. -/
theorem unpack_byteOf {lo hi k : Nat} (h : lo < k) (fits : lo + hi * k < 256) :
    (byteOf (lo + hi * k)).toNat % k = lo ∧ (byteOf (lo + hi * k)).toNat / k = hi := by
  have pos : 0 < k := Nat.zero_lt_of_lt h
  rw [toNat_byteOf fits, Nat.add_mul_mod_self_right, Nat.mod_eq_of_lt h, Nat.add_mul_div_right _ _ pos, Nat.div_eq_of_lt h]
  exact ⟨rfl, Nat.zero_add _⟩

/-- Settles O43: each byte packs values that are below the weight of the next one. -/
theorem snapshotLayout : Obligations.SnapshotLayout := by
  intro b r form ⟨run, bad, faults, c1, c2, c3, c4⟩ inFlight lease geometry trial
  simp only [Config.maxRun, Config.maxFaults] at run bad faults
  have state := r.state.code_lt
  have phase := r.phase.code_lt
  have cause := causeCode_lt r.cause
  have tag := tagCode_lt r.tag
  have cells := cellsCode_lt geometry
  have trialCells := cellsCode_lt trial
  have format := formatCode_lt r.geometry
  have trialFormat := formatCode_lt r.trial
  have leaseLt := leaseCode_lt lease
  have reasons := r.reasons.isLt
  have pinned := flagNat_lt r.pinned
  have origin := flagNat_lt (r.origin == .provisioned)
  have frame := flagNat_lt r.lastFrame.isSome
  have announced := flagNat_lt r.announced
  have note := flagNat_lt r.strandedNote
  have pending := flagNat_lt r.bindPending
  have d2 := unpack_byteOf (lo := b.val) (hi := r.cls.val) (k := 64) (by omega) (by omega)
  have d3 := unpack_byteOf (lo := r.state.code) (hi := r.consecutiveBad) (k := 16) (by omega) (by omega)
  have d4 : (byteOf (r.key.link.val * 16 + r.key.stream.val + flagNat r.pinned * 128)).toNat =
    r.key.link.val * 16 + r.key.stream.val + flagNat r.pinned * 128 := toNat_byteOf (by omega)
  have d5 := unpack_byteOf (hi := causeCode r.cause) tag (by omega)
  have d6 := unpack_byteOf (hi := r.phase.code) reasons (by omega)
  have d7 := unpack_byteOf (hi := flagNat (r.origin == .provisioned)) cells (by omega)
  have d8 := unpack_byteOf (hi := flagNat r.lastFrame.isSome) trialCells (by omega)
  have d9 := unpack_byteOf (hi := (r.trial.map fun g => g.format.val).getD 0) format (by omega)
  have d11 : (byteOf (r.faults + flagNat r.announced * 64 + flagNat r.strandedNote * 128)).toNat =
    r.faults + flagNat r.announced * 64 + flagNat r.strandedNote * 128 := toNat_byteOf (by omega)
  have d12 := unpack_byteOf (lo := r.inFlight) (hi := flagNat r.bindPending) (k := 64) (by omega) (by omega)
  obtain ⟨d13, d14⟩ := toNat_bytes16 (n := r.run * 4096 + r.lease.getD 0) (by omega)
  refine ⟨rfl, d2.1, d2.2, d3.1.trans ?_, d3.2, ?_, ?_, ?_, d5.1.trans ?_, d5.2.trans ?_, d6.1, d6.2.trans ?_, d7.1.trans ?_,
    d7.2.trans ?_, d8.1.trans ?_, d8.2, d9.1.trans ?_, d9.2.trans ?_, fun n hn => ?_, ?_, ?_, ?_, d12.1, d12.2, ?_, ?_, rfl,
    counter_of_bytes32 c1, counter_of_bytes32 c2, counter_of_bytes32 c3, counter_of_bytes32 c4⟩
  · cases r.state <;> rfl
  · exact (congrArg (· / 16 % 8) d4).trans (by omega)
  · exact (congrArg (· % 16) d4).trans (by omega)
  · exact (congrArg (· / 128) d4).trans (by simp only [flagNat] at pinned ⊢; omega)
  · cases r.tag <;> rfl
  · cases r.cause with
    | none => rfl
    | some x => cases x <;> rfl
  · cases r.phase <;> rfl
  · cases r.geometry <;> rfl
  · cases r.origin <;> rfl
  · cases r.trial <;> rfl
  · cases r.geometry <;> rfl
  · cases r.trial <;> rfl
  · show (r.lastFrame.getD 0#8).toNat = n.toNat
    rw [hn]
    rfl
  · exact (congrArg (· % 64) d11).trans (by omega)
  · exact (congrArg (· / 64 % 2) d11).trans (by simp only [flagNat] at announced ⊢; omega)
  · exact (congrArg (· / 128) d11).trans (by simp only [flagNat] at announced note ⊢; omega)
  · exact (congrArg (· / 16) d13).trans (by omega)
  · exact (congrArg₂ (· % 16 * 256 + ·) d13 d14).trans ((by omega : _ = r.lease.getD 0).trans (by cases r.lease <;> rfl))

/-! ### Commands in hand, operands and responses (R182, R183, R198) -/

section
variable {s : State}

/-- R182: the command in hand is taken. -/
theorem commandEvent_inHand {code : Byte} (h : s.inHand code) (f : State → State) : commandEvent s code f = .next (f s) := by
  obtain ⟨awake, busy, command⟩ := h
  rw [commandEvent, takeEvent_awake awake, if_pos ⟨busy, command⟩]

theorem below_of_toNat {n : Nat} {x : Byte} {i : Fin n} (h : x.toNat = i.val) : below n x = some i := by
  rw [below, dif_pos (h ▸ i.isLt)]
  exact congrArg some (Fin.ext h)

theorem flagOperand_of_toNat {x : Byte} {f : Bool} (h : x.toNat = flagOp f) : flagOperand x = some f := by
  cases f with
  | false => rw [BitVec.eq_of_toNat_eq (y := 0x00#8) h]; rfl
  | true => rw [BitVec.eq_of_toNat_eq (y := 0x01#8) h]; rfl

theorem tagOperand_of_toNat {x : Byte} {t : Tag} (h : x.toNat = t.val + 1) : tagOperand x = some t := by
  have nonzero : x ≠ 0x00#8 := fun e => by rw [e] at h; exact absurd h (Nat.succ_ne_zero _).symm
  have one : (x - 1).toNat = t.val := by
    have := t.isLt
    rw [BitVec.toNat_sub, h]
    simp
    omega
  rw [tagOperand, if_neg nonzero, below_of_toNat one]

theorem within_of_le {lo hi n : Nat} (h : lo ≤ n) (h' : n ≤ hi) : within lo hi n = some n := if_pos ⟨h, h'⟩

/-- R182: the two codes, the data, and 00h in every byte not used. -/
theorem toList_responseBlock (r : Result) (code : Byte) {data : List Byte} (h : data.length ≤ 30) :
    (responseBlock r code data).toList = r.code :: code :: data ++ List.replicate (30 - data.length) 0#8 := by
  refine List.ext_getElem (by simp; omega) fun i h1 h2 => ?_
  simp only [responseBlock, Vector.getElem_toList, Vector.getElem_ofFn]
  by_cases hi : i < (r.code :: code :: data).length
  · rw [List.getElem_append_left hi, List.getD_eq_getElem _ _ hi]
  · rw [List.getElem_append_right (Nat.le_of_not_lt hi), List.getElem_replicate,
      List.getD_eq_default _ _ (Nat.le_of_not_lt hi)]

/-- R182: a posted response, where the event left the host port alone before it. -/
theorem State.answers_post {u : State} (host : u.host = s.host) (r : Result) {data : List Byte} (h : data.length ≤ 30) :
    s.answers (u.post r data) r.code data := by
  refine ⟨?_, ?_⟩
  · rw [post, operand, host]
    exact toList_responseBlock r _ h
  · rw [post, host]

/-- R182: a response touches nothing but the host port. -/
theorem State.post_frame {u : State} (host : u.host = s.host) (r : Result) (data : List Byte) :
    { u.post r data with host := s.host } = u := by rw [← host]; rfl

/-- R183: a refusal changes nothing but the response. -/
theorem State.refusedWith_of {c : Instr} {r : Result} (h : exec c s = .next (s.refuse r)) : s.refusedWith c r.code :=
  ⟨_, h, answers_post rfl r (Nat.zero_le _), post_frame rfl r []⟩

end

/-! ### Reading records -/

section
variable {s : State}

theorem snapshotBytes_length (b : BindingNo) (r : BindingRecord) (form : Byte) : (snapshotBytes b r form).length = 30 := rfl

/-- R20, R21: what a command that finds a record answers. -/
theorem State.postSnapshot_answers (s : State) (b : BindingNo) (clear : Bool) :
    s.answers (s.postSnapshot b clear) 0x00#8 (snapshotBytes b (s.record b) 0x00#8) ∧
      { s.postSnapshot b clear with host := s.host } = if clear then
        s.putRecord b { s.record b with forwarded := 0, withheld := 0, bad := 0, gaps := 0 } else s := by
  have posted : s.answers (s.post .ok (s.snapshot b)) 0x00#8 (snapshotBytes b (s.record b) 0x00#8) :=
    answers_post rfl .ok (snapshotBytes_length ..).le
  cases clear with
  | false => exact ⟨posted, post_frame rfl _ _⟩
  | true => exact ⟨posted, rfl⟩

theorem allBindings_find? {p : BindingNo → Bool} {b : BindingNo} :
    allBindings.find? p = some b ↔ p b = true ∧ ∀ c < b, p c = false := by
  rw [allBindings, ← Fin.find?_eq_find?_finRange, Fin.find?_eq_some_iff]

/-- R8, R9: the active record that shows a key is the one its look-up finds. -/
theorem State.resolveKey_of_active {k : Key} {b : BindingNo} (law : s.KeyLaw) (active : (s.record b).state.active = true)
    (key : (s.record b).key = k) : s.resolveKey k = some b := by
  refine allBindings_find?.mpr ⟨by simp [active, key], fun c lt => ?_⟩
  by_contra found
  rw [Bool.not_eq_false, Bool.and_eq_true, beq_iff_eq] at found
  exact lt.ne (law c b found.1 active (found.2.trans key.symm))

theorem State.resolveKey_of_inactive {k : Key} (h : ∀ b, (s.record b).key = k → (s.record b).state.active = false) :
    s.resolveKey k = none := by
  refine List.find?_eq_none.mpr fun b _ => ?_
  rw [Bool.and_eq_true, beq_iff_eq]
  exact fun ⟨active, key⟩ => Bool.false_ne_true ((h b key).symm.trans active)

/-- R22: the lowest-numbered RETIRED record that shows a key. -/
theorem State.retiredShowing_of_lowest {k : Key} {b : BindingNo} (state : (s.record b).state = .retired)
    (key : (s.record b).key = k) (lowest : ∀ x < b, (s.record x).key = k → (s.record x).state ≠ .retired) :
    s.retiredShowing k = some b := by
  refine allBindings_find?.mpr ⟨by simp [state, key], fun c lt => ?_⟩
  by_contra found
  rw [Bool.not_eq_false, Bool.and_eq_true, beq_iff_eq, beq_iff_eq] at found
  exact lowest c lt found.2 found.1

theorem State.retiredShowing_none {k : Key} (h : ∀ b, (s.record b).key = k → (s.record b).state ≠ .retired) :
    s.retiredShowing k = none := by
  refine List.find?_eq_none.mpr fun b _ => ?_
  rw [Bool.and_eq_true, beq_iff_eq, beq_iff_eq]
  exact fun ⟨state, key⟩ => h b key state

theorem RecordState.active_iff (x : RecordState) : x.active = true ↔ x ≠ .free ∧ x ≠ .retired := by
  cases x <;> simp [RecordState.active]

/-- R185: the operands of LOOKUP KEY read. -/
theorem execLookupKey_eq {l : LinkNo} {n : StreamNo} {clear : Bool} (h : s.inHand 0x03#8) (h1 : s.op 1 = l.val)
    (h2 : s.op 2 = n.val) (h3 : s.op 3 = flagOp clear) : exec .lookupKey s = .next (match s.lookupKey ⟨l, n⟩ with
      | some b => s.postSnapshot b clear
      | none => s.refuse .noRecord) := by
  show execLookupKey s = _
  rw [execLookupKey, commandEvent_inHand h, State.operand, State.operand, State.operand, below_of_toNat h1, below_of_toNat h2,
    flagOperand_of_toNat h3] <;> rfl

/-- R185: the operands of LOOKUP TAG read. -/
theorem execLookupTag_eq {x : Tag} {clear : Bool} (h : s.inHand 0x04#8) (h1 : s.op 1 = x.val + 1)
    (h2 : s.op 2 = flagOp clear) : exec .lookupTag s = .next (match s.tagEntry x with
      | .held b => s.postSnapshot b clear
      | .free _ | .stranded _ => s.refuse .noRecord) := by
  show execLookupTag s = _
  rw [execLookupTag, commandEvent_inHand h, State.operand, State.operand, tagOperand_of_toNat h1, flagOperand_of_toNat h2] <;> rfl

/-- R185: the operands of READ RECORD read. -/
theorem execReadRecord_eq {b : BindingNo} {clear : Bool} (h : s.inHand 0x02#8) (h1 : s.op 1 = b.val)
    (h2 : s.op 2 = flagOp clear) : exec .readRecord s = .next (s.postSnapshot b clear) := by
  show execReadRecord s = _
  rw [execReadRecord, commandEvent_inHand h, State.operand, State.operand, below_of_toNat h1, flagOperand_of_toNat h2]

/-- Settles O44: the record that a look-up finds is the one `State.resolveKey`, `State.retiredShowing` or the tag's entry
names, and its snapshot is answered. -/
theorem recordReads : Obligations.RecordReads := by
  intro s clear
  refine ⟨fun b h h1 h2 => ⟨_, execReadRecord_eq h h1 h2, s.postSnapshot_answers b clear⟩, fun l n h h1 h2 h3 law => ?_,
    fun x h h1 h2 => ⟨fun b held => ?_, fun notHeld => ?_⟩⟩
  · have run := execLookupKey_eq h h1 h2 h3
    refine ⟨fun b key active => ?_, fun b inactive key state lowest => ?_, fun free => ?_⟩
    · rw [State.lookupKey, State.resolveKey_of_active law ((RecordState.active_iff _).mpr active) key] at run
      exact ⟨_, run, s.postSnapshot_answers b clear⟩
    · rw [State.lookupKey, State.resolveKey_of_inactive fun x hx =>
          Bool.eq_false_iff.mpr fun a => inactive x hx ((RecordState.active_iff _).mp a),
        State.retiredShowing_of_lowest state key lowest] at run
      exact ⟨_, run, s.postSnapshot_answers b clear⟩
    · rw [State.lookupKey, State.resolveKey_of_inactive fun x hx => by rw [free x hx]; rfl,
        State.retiredShowing_none fun x hx => by simp [free x hx]] at run
      exact State.refusedWith_of run
  · have run := execLookupTag_eq h h1 h2
    rw [held] at run
    exact ⟨_, run, s.postSnapshot_answers b clear⟩
  · have run := execLookupTag_eq h h1 h2
    refine State.refusedWith_of (r := .noRecord) (run.trans ?_)
    cases entry : s.tagEntry x with
    | held b => exact absurd entry (notHeld b)
    | free | stranded => rfl

end

section
variable {s : State}

/-- R182: what an event's posted response answers, and what it leaves of the state. -/
theorem State.posted {c : Instr} {u : State} {r : Result} {data : List Byte} (run : exec c s = .next (u.post r data))
    (host : u.host = s.host) (h : data.length ≤ 30) :
    ∃ t, exec c s = .next t ∧ s.answers t r.code data ∧ { t with host := s.host } = u :=
  ⟨_, run, answers_post host r h, post_frame host r data⟩

/-! ### The host port in the releases, grants and retirements of an event -/

theorem State.arbitrate_grantIfReleased_host (s before : State) : (s.grantIfReleased before).arbitrate.host = s.host := by
  obtain ⟨_, _, _, h⟩ := s.grantIfReleased_frame before
  rw [arbitrate_host, h]

theorem State.beginRetirement_host (s : State) (b : BindingNo) (c : RetireCause) : (s.beginRetirement b c).host = s.host := by
  obtain ⟨_, _, _, h⟩ := s.beginRetirement_frame b c
  rw [h]

theorem State.grantEvent_host (s : State) : s.grantEvent.host = s.host := by
  obtain ⟨_, _, _, h⟩ := s.grantUpTo_frame s.tags.waitQueue.length
  rw [grantEvent, h]

/-! ### MODIFY and RETIRE (R23, R121, R187) -/

/-- R23: what MODIFY changes. -/
def State.modified (s : State) (b : BindingNo) (c : ClassNo) (pinned : Bool) : State :=
  s.putRecord b { s.record b with cls := c, pinned := pinned }

/-- R187: the operands of MODIFY read. -/
theorem execModify_eq {b : BindingNo} {c : ClassNo} {pinned : Bool} (h : s.inHand 0x06#8) (h1 : s.op 1 = b.val)
    (h2 : s.op 2 = c.val) (h3 : s.op 3 = flagOp pinned) : exec .modify s = .next (match (s.record b).state with
      | .free => s.refuse .noRecord
      | .retired => s.refuse .badState
      | _ => (s.modified b c pinned).post .ok ((s.modified b c pinned).modifyBytes b)) := by
  show execModify s = _
  rw [execModify, commandEvent_inHand h, State.operand, State.operand, State.operand, below_of_toNat h1, below_of_toNat h2,
    flagOperand_of_toNat h3] <;> rfl

/-- R121: a retirement by the host as an event, its grants and the arbiter's choice included (logs 16, 18). -/
def State.retiredByHost (s : State) (b : BindingNo) : State :=
  ((s.beginRetirement b .host).grantIfReleased s).arbitrate

theorem State.retiredByHost_host (s : State) (b : BindingNo) : (s.retiredByHost b).host = s.host :=
  (arbitrate_grantIfReleased_host ..).trans (s.beginRetirement_host b .host)

/-- R187: the operand of RETIRE read. -/
theorem execRetire_eq {b : BindingNo} (h : s.inHand 0x07#8) (h1 : s.op 1 = b.val) :
    exec .retire s = .next (match (s.record b).state with
      | .free => s.refuse .noRecord
      | .retired => s.refuse .badState
      | .retiring => s.post .already (s.retireBytes b)
      | _ => (s.retiredByHost b).post .ok ((s.retiredByHost b).retireBytes b)) := by
  show execRetire s = _
  rw [execRetire, commandEvent_inHand h, State.operand, below_of_toNat h1] <;> rfl

/-- R23: MODIFY changes class and pinned flag, and the response shows them. -/
theorem State.modifyBytes_modified (s : State) (b : BindingNo) (c : ClassNo) (pinned : Bool) :
    (s.modified b c pinned).modifyBytes b =
      [byteOf b.val, byteOf c.val, byteOf (flagOp pinned), byteOf (s.record b).state.code] := by
  rw [modifyBytes, modified, record_putRecord_self]
  rfl

/-- Settles O46: by the state of the record named, MODIFY and RETIRE refuse, or post their response to the changed state. -/
theorem modifyAndRetire : Obligations.ModifyAndRetire := by
  intro s b h1
  refine ⟨fun c pinned h h2 h3 => ?_, fun h => ?_⟩
  · have run := execModify_eq h h1 h2 h3
    rw [State.modifyBytes_modified] at run
    refine ⟨fun state => ?_, fun state => ?_, fun notFree notRetired => ?_⟩
    · exact State.refusedWith_of (r := .noRecord) (run.trans (by rw [state]))
    · exact State.refusedWith_of (r := .badState) (run.trans (by rw [state]))
    · refine State.posted (u := s.modified b c pinned) (r := .ok) (run.trans ?_) rfl (Nat.le_of_ble_eq_true rfl)
      cases state : (s.record b).state with
      | free => exact absurd state notFree
      | retired => exact absurd state notRetired
      | candidate | tagWait | announcing | live | suspended | silent | retiring => rfl
  · have run := execRetire_eq h h1
    refine ⟨fun state => ?_, fun state => ?_, fun state => ?_, fun notFree notRetired notRetiring => ?_⟩
    · exact State.refusedWith_of (r := .noRecord) (run.trans (by rw [state]))
    · exact State.refusedWith_of (r := .badState) (run.trans (by rw [state]))
    · have bytes : s.retireBytes b = [byteOf b.val, 0x07#8] := by rw [State.retireBytes, state]; rfl
      rw [state, bytes] at run
      exact State.posted run rfl (by simp)
    · have retire : exec .retire s = .next ((s.retiredByHost b).post .ok ((s.retiredByHost b).retireBytes b)) := by
        rw [run]
        cases state : (s.record b).state with
        | free => exact absurd state notFree
        | retired => exact absurd state notRetired
        | retiring => exact absurd state notRetiring
        | candidate | tagWait | announcing | live | suspended | silent => rfl
      have host := s.retiredByHost_host b
      exact ⟨_, retire, State.answers_post host .ok (Nat.le_of_ble_eq_true rfl), State.post_frame host _ _⟩

/-! ### Settings (R11, R69, R81, R171, R188, R190) -/

theorem word16_toNat (hi lo : Byte) : (word16 hi lo).toNat = hi.toNat * 256 + lo.toNat := by
  rw [word16, BitVec.toNat_append, ← Nat.shiftLeft_add_eq_or_of_lt lo.isLt, Nat.shiftLeft_eq]

/-- Table 11-F: the three options of SET CLASS recover from their byte. -/
theorem options_recover (p : PolicyClass) {n : Nat}
    (h : n = flagOp (p.priority == .expedited) + 2 * flagOp p.reshapeAllowed + 4 * flagOp p.autoClear) :
    n ≤ 7 ∧ (if (BitVec.ofNat 3 n).getLsbD 0 then .expedited else .normal) = p.priority ∧
      (BitVec.ofNat 3 n).getLsbD 1 = p.reshapeAllowed ∧ (BitVec.ofNat 3 n).getLsbD 2 = p.autoClear := by
  rw [h]
  cases p.priority <;> cases p.reshapeAllowed <;> cases p.autoClear <;> decide

/-- R188: the operands of SET CLASS read, each in its range. -/
theorem State.classOperands_of {c : ClassNo} {p : PolicyClass} (h1 : s.op 1 = c.val) (h2 : s.op 2 = p.admissionCount)
    (h3 : s.op 3 = p.faultThreshold) (h4 : s.op 4 = p.retireThreshold) (h5 : s.op 5 * 256 + s.op 6 = p.leaseLength)
    (h7 : s.op 7 = flagOp (p.priority == .expedited) + 2 * flagOp p.reshapeAllowed + 4 * flagOp p.autoClear)
    (admission : 1 ≤ p.admissionCount ∧ p.admissionCount ≤ 15) (fault : 1 ≤ p.faultThreshold ∧ p.faultThreshold ≤ 15)
    (retire : 1 ≤ p.retireThreshold ∧ p.retireThreshold ≤ 63) (lease : 10 ≤ p.leaseLength ∧ p.leaseLength ≤ 4095) :
    s.classOperands = some (c, p) := by
  obtain ⟨inRange, priority, reshape, clear⟩ := options_recover p h7
  have a2 : (s.operand 2).toNat = p.admissionCount := h2
  have a3 : (s.operand 3).toNat = p.faultThreshold := h3
  have a4 : (s.operand 4).toNat = p.retireThreshold := h4
  have a5 : (word16 (s.operand 5) (s.operand 6)).toNat = p.leaseLength := (word16_toNat _ _).trans h5
  rw [classOperands, show below 4 (s.operand 1) = some c from below_of_toNat h1, a2, within_of_le admission.1 admission.2,
    a3, within_of_le fault.1 fault.2, a4, within_of_le retire.1 retire.2, a5, within_of_le lease.1 lease.2,
    show (s.operand 7).toNat = s.op 7 from rfl, within_of_le (Nat.zero_le _) inRange]
  show some (c, PolicyClass.mk _ _ _ _ _ _ _) = _
  rw [priority, reshape, clear]

/-- R69: the hold-off expiry that stands is withdrawn by a lowered hold-off alone (log 3). -/
theorem TagManager.setHoldOff_eq (m : TagManager) (holdOff : Nat) : m.setHoldOff holdOff =
    { m with holdOff := holdOff, holdOffDue := if holdOff < m.holdOff then false else m.holdOffDue } := by
  rw [setHoldOff]
  by_cases lower : holdOff < m.holdOff
  · rw [if_pos lower, decide_eq_false (Nat.not_le.mpr lower), Bool.and_false]
  · rw [if_neg lower, decide_eq_true (Nat.not_lt.mp lower), Bool.and_true]

/-- The three settings of SET TIMING in place (R188), before its grant event. -/
def State.withTiming (s : State) (timeout holdOff threshold : Nat) : State :=
  { s with notice.timeout := timeout, tags := { s.tags.setHoldOff holdOff with strandedThreshold := threshold } }

/-- R69, R188: the operands of SET TIMING read. -/
theorem execSetTiming_eq (h : s.inHand 0x0E#8) (timeout : 1 ≤ s.op 1) (holdOff : s.op 2 * 256 + s.op 3 ≤ 1023)
    (threshold : 1 ≤ s.op 4 ∧ s.op 4 ≤ 8) : exec .setTiming s =
      .next ((s.withTiming (s.op 1) (s.op 2 * 256 + s.op 3) (s.op 4)).grantEvent.arbitrate.post .ok []) := by
  have w1 : within 1 255 (s.operand 1).toNat = some (s.op 1) :=
    within_of_le timeout (Nat.le_of_lt_succ (s.operand 1).isLt)
  have w2 : within 0 1023 (word16 (s.operand 2) (s.operand 3)).toNat = some (s.op 2 * 256 + s.op 3) := by
    rw [word16_toNat]
    exact within_of_le (Nat.zero_le _) holdOff
  have w4 : within 1 8 (s.operand 4).toNat = some (s.op 4) := within_of_le threshold.1 threshold.2
  show execSetTiming s = _
  rw [execSetTiming, commandEvent_inHand h, w1, w2, w4] <;> rfl

/-- R69: with the hold-off unchanged or raised, SET TIMING leaves no head of the free list ready while records wait. -/
theorem State.HeadLaw.withTiming {timeout holdOff threshold : Nat} (head : s.HeadLaw) (h : s.tags.holdOff ≤ holdOff) :
    (s.withTiming timeout holdOff threshold).HeadLaw :=
  head.imp id fun notReady x rest free => tagReady_setHoldOff h (notReady x rest free)

theorem recordMaskOperand_of_lt {x : Byte} (h : x.toNat < 32) : recordMaskOperand x = some (BitVec.ofNat 5 x.toNat) := by
  rw [recordMaskOperand, if_pos h, ← BitVec.setWidth_eq_extractLsb' (by omega), BitVec.ofNat_toNat]

theorem partMaskOperand_of_lt {x : Byte} (h : x.toNat < 64) : partMaskOperand x = some (BitVec.ofNat 6 x.toNat) := by
  rw [partMaskOperand, if_pos h, ← BitVec.setWidth_eq_extractLsb' (by omega), BitVec.ofNat_toNat]

/-- R81, R188: the operand of RELEASE TAG read. -/
theorem execReleaseTag_eq {x : Tag} (h : s.inHand 0x08#8) (h1 : s.op 1 = x.val + 1) :
    exec .releaseTag s = .next (match s.tagEntry x with
      | .stranded _ =>
        let u := ((s.releaseTag x).grantIfReleased s).arbitrate
        u.post .ok [byteOf x.number, byteOf u.tags.strandedCount]
      | .free _ | .held _ => s.refuse .badState) := by
  show execReleaseTag s = _
  rw [execReleaseTag, commandEvent_inHand h, State.operand, tagOperand_of_toNat h1] <;> rfl

/-- Settles O47: each command's operands read, its writes put in place, and its response posted. -/
theorem settingsCommands : Obligations.SettingsCommands := by
  intro s
  refine ⟨fun c p h h1 h2 h3 h4 h5 h7 a a' f f' r r' l l' => ?_, fun h timeout holdOff threshold threshold' => ?_,
    fun h h1 h2 => ?_, fun x h h1 => ⟨fun notStranded => ?_, fun q stranded => ?_⟩⟩
  · have run : exec .setClass s = .next ({ s with classes := s.classes.set c p }.post .ok []) := by
      show execSetClass s = _
      rw [execSetClass, commandEvent_inHand h,
        State.classOperands_of h1 h2 h3 h4 h5 h7 ⟨a, a'⟩ ⟨f, f'⟩ ⟨r, r'⟩ ⟨l, l'⟩]
    exact State.posted run rfl (Nat.zero_le _)
  · intro _ written
    have same : s.withTiming (s.op 1) (s.op 2 * 256 + s.op 3) (s.op 4) = written := by
      rw [State.withTiming, TagManager.setHoldOff_eq]
    have run := execSetTiming_eq h timeout holdOff ⟨threshold, threshold'⟩
    rw [same] at run
    exact ⟨State.posted run ((State.arbitrate_host _).trans (State.grantEvent_host _)) (Nat.zero_le _),
      fun raised head => State.grantEvent_of_head (same ▸ head.withTiming raised)⟩
  · have run : exec .setAttentionEnables s = .next ({ s with attention := { s.attention with
        recordEnables := BitVec.ofNat 5 (s.op 1), partEnables := BitVec.ofNat 6 (s.op 2) } }.post .ok []) := by
      show execSetAttentionEnables s = _
      rw [execSetAttentionEnables, commandEvent_inHand h, State.operand, State.operand, recordMaskOperand_of_lt h1,
        partMaskOperand_of_lt h2]
      rfl
    exact State.posted run rfl (Nat.zero_le _)
  · refine State.refusedWith_of (r := .badState) ((execReleaseTag_eq h h1).trans ?_)
    cases entry : s.tagEntry x with
    | stranded q => exact absurd entry (notStranded q)
    | free | held => rfl
  · have run := execReleaseTag_eq h h1
    rw [stranded, State.releaseTag_stranded stranded] at run
    have host := State.arbitrate_grantIfReleased_host { s with
      tags := { s.tags.releasing x with strandedCount := s.tags.strandedCount - 1 } } s
    exact ⟨_, run, State.answers_post host .ok (Nat.le_of_ble_eq_true rfl), State.post_frame host _ _⟩

end

end Sys2Proof.Machine

namespace Sys2Proof.Machine

set_option Elab.async false

/-! ### Cells outside the open frames, and the links

The law of R39 reads the free cells, the egress queue and the links. Most operations leave the three alone; what they do is said
here once for each, as an equation. -/

/-- The cells that are free or held by descriptors, and the links with the cells of their open frames (R39). -/
structure Holdings where
  cells : Nat
  links : Vector FeederLink 8

def State.holdings (s : State) : Holdings := ⟨s.freeCells + queueCells s.trunk.queue, s.feeders⟩

/-- Cells come back from where the law does not count them. -/
def Holdings.plus (h : Holdings) (n : Nat) : Holdings := { h with cells := h.cells + n }

@[simp] theorem queueCells_nil : queueCells [] = 0 := rfl

@[simp] theorem queueCells_cons (d : Descriptor) (q : List Descriptor) : queueCells (d :: q) = d.cellCount + queueCells q :=
  rfl

@[simp] theorem queueCells_append (q q' : List Descriptor) : queueCells (q ++ q') = queueCells q + queueCells q' := by
  simp [queueCells]

/-- A queue falls into the descriptors that meet a condition and the others. -/
theorem queueCells_filter (p : Descriptor → Bool) (q : List Descriptor) :
    queueCells (q.filter p) + queueCells (q.filter fun d => !p d) = queueCells q := by
  induction q with
  | nil => rfl
  | cons d q ih => cases h : p d <;> simp [h] <;> omega

/-- The first descriptor that meets a condition leaves with its cells. -/
theorem queueCells_eraseP {p : Descriptor → Bool} {q : List Descriptor} {d : Descriptor} (h : q.find? p = some d) :
    queueCells (q.eraseP p) + d.cellCount = queueCells q := by
  induction q with
  | nil => cases h
  | cons x q ih =>
    cases hx : p x with
    | true =>
      rw [List.find?_cons_of_pos hx] at h
      obtain rfl := Option.some.inj h
      rw [List.eraseP_cons_of_pos hx, queueCells_cons, Nat.add_comm]
    | false =>
      rw [List.find?_cons_of_neg (by simp [hx])] at h
      rw [List.eraseP_cons_of_neg (by simp [hx]), queueCells_cons, queueCells_cons, Nat.add_assoc, ih h]

/-- A begin marks a descriptor and moves no cell. -/
@[simp] theorem queueCells_markFirst (p : Descriptor → Bool) (q : List Descriptor) :
    queueCells (markFirst p q) = queueCells q := by
  induction q with
  | nil => rfl
  | cons d q ih =>
    rw [markFirst]
    split
    · rfl
    · rw [queueCells_cons, queueCells_cons, ih]

namespace State

variable (s : State) (b : BindingNo)

@[simp] theorem holdings_updateRecord (f : BindingRecord → BindingRecord) : (s.updateRecord b f).holdings = s.holdings := rfl

@[simp] theorem holdings_putRecord (r : BindingRecord) : (s.putRecord b r).holdings = s.holdings := rfl

@[simp] theorem holdings_startLease : (s.startLease b).holdings = s.holdings := rfl

@[simp] theorem holdings_renewLease : (s.renewLease b).holdings = s.holdings := by rw [renewLease_eq]; rfl

@[simp] theorem holdings_raiseRecord (r : RecordReason) : (s.raiseRecord b r).holdings = s.holdings := by
  rw [raiseRecord_eq]; rfl

@[simp] theorem holdings_raisePart (r : PartReason) : (s.raisePart r).holdings = s.holdings := by rw [raisePart_eq]; rfl

@[simp] theorem holdings_post (r : Result) (data : List Byte) : (s.post r data).holdings = s.holdings := rfl

@[simp] theorem holdings_refuse (r : Result) : (s.refuse r).holdings = s.holdings := rfl

@[simp] theorem holdings_returnCells (n : Nat) : (s.returnCells n).holdings = s.holdings.plus n := by
  simp [holdings, Holdings.plus]
  omega

@[simp] theorem holdings_goFree : (s.goFree b).holdings = s.holdings := rfl

@[simp] theorem holdings_leaveWaitQueue : (s.leaveWaitQueue b).holdings = s.holdings := rfl

@[simp] theorem holdings_oweNotice : (s.oweNotice b).holdings = s.holdings := rfl

@[simp] theorem holdings_oweOrAwait : (s.oweOrAwait b).holdings = s.holdings := by rw [oweOrAwait_eq]; rfl

@[simp] theorem holdings_holdTag (x : Tag) : (s.holdTag b x).holdings = s.holdings := rfl

@[simp] theorem holdings_releaseTag (x : Tag) : (s.releaseTag x).holdings = s.holdings := by
  obtain ⟨_, _, h⟩ := s.releaseTag_frame x
  rw [h]; rfl

@[simp] theorem holdings_releaseTagOf : (s.releaseTagOf b).holdings = s.holdings := by
  unfold releaseTagOf
  split
  · exact holdings_releaseTag ..
  · rfl

@[simp] theorem holdings_announceAdmitted : (s.announceAdmitted b).holdings = s.holdings := by
  obtain ⟨_, _, h⟩ := s.announceAdmitted_frame b
  rw [h]; rfl

@[simp] theorem holdings_grantEvent : s.grantEvent.holdings = s.holdings := by
  obtain ⟨_, _, _, h⟩ := s.grantUpTo_frame s.tags.waitQueue.length
  rw [grantEvent, h]; rfl

@[simp] theorem holdings_grantIfReleased (before : State) : (s.grantIfReleased before).holdings = s.holdings := by
  obtain ⟨_, _, _, h⟩ := s.grantIfReleased_frame before
  rw [h]; rfl

@[simp] theorem holdings_enterLive : (s.enterLive b).holdings = s.holdings := by rw [enterLive_eq]; rfl

@[simp] theorem holdings_lapse : (s.lapse b).holdings = s.holdings := by simp [lapse]

@[simp] theorem holdings_completeRetirement : (s.completeRetirement b).holdings = s.holdings := by
  rw [completeRetirement_eq]; rfl

@[simp] theorem holdings_moveDrained : (s.moveDrained b).holdings = s.holdings := by
  obtain ⟨_, _, _, h⟩ := s.moveDrained_frame b
  rw [h]; rfl

@[simp] theorem holdings_beginRetirement (c : RetireCause) : (s.beginRetirement b c).holdings = s.holdings := by
  obtain ⟨_, _, _, h⟩ := s.beginRetirement_frame b c
  rw [h]; rfl

@[simp] theorem holdings_enterTagWait : (s.enterTagWait b).holdings = s.holdings := by rw [enterTagWait_eq]; rfl

@[simp] theorem holdings_requestTag : (s.requestTag b).holdings = s.holdings := by
  unfold requestTag
  split
  · split
    · simp
    · simp
  · simp

@[simp] theorem holdings_completeAdmission : (s.completeAdmission b).holdings = s.holdings := by
  simp only [completeAdmission]
  split
  · simp
  · simp

@[simp] theorem holdings_announceRequalified : (s.announceRequalified b).holdings = s.holdings := by
  simp only [announceRequalified]
  split
  · simp
  · simp

@[simp] theorem holdings_requalify : (s.requalify b).holdings = s.holdings := by
  simp only [requalify]
  split_ifs
  · simp
  · simp
  · simp
  · simp

@[simp] theorem holdings_suspend : (s.suspend b).holdings = s.holdings := by simp [suspend]

/-! ### The arbiter -/

@[simp] theorem holdings_countRetransmission (n : Nat) : (s.countRetransmission n).holdings = s.holdings := by
  unfold countRetransmission
  split <;> rfl

@[simp] theorem holdings_startItem (i : TxItem) (bytes : List Byte) : (s.startItem i bytes).holdings = s.holdings := rfl

theorem holdings_beginOffer (o : Offer) : (s.beginOffer o).holdings = s.holdings := by
  cases o with
  | hello h => exact s.holdings_countRetransmission h.count
  | again e => exact s.holdings_countRetransmission e.count
  | first b x => rfl

theorem holdings_beginData (p : Priority) (d : Descriptor) : (s.beginData p d).holdings = s.holdings := by
  unfold beginData
  split
  · simp [holdings]
  · rfl

/-- R131: the arbiter moves no cell. -/
@[simp] theorem holdings_arbitrate : s.arbitrate.holdings = s.holdings := by
  unfold arbitrate chooseData
  split
  · rfl
  · split
    · split
      · exact holdings_beginOffer ..
      · split
        · exact holdings_beginData ..
        · split
          · exact holdings_beginData ..
          · rfl
    · rfl

/-! ### The frame close -/

@[simp] theorem holdings_createLearnt (c : FrameClose) : (s.createLearnt b c).holdings = s.holdings := by
  simp only [createLearnt]
  split
  · simp
  · simp

@[simp] theorem holdings_closeCandidate (c : FrameClose) : (s.closeCandidate b c).holdings = s.holdings := by
  simp only [closeCandidate]
  split_ifs
  · simp
  · simp
  · simp
  · simp

@[simp] theorem holdings_closeTagWait (c : FrameClose) : (s.closeTagWait b c).holdings = s.holdings := by simp [closeTagWait]

@[simp] theorem holdings_closeAnnouncing (c : FrameClose) : (s.closeAnnouncing b c).holdings = s.holdings := rfl

@[simp] theorem holdings_closeRequalifying (c : FrameClose) : (s.closeRequalifying b c).holdings = s.holdings := by
  simp only [closeRequalifying]
  split_ifs
  · simp
  · simp
  · simp
  · simp
  · simp

@[simp] theorem holdings_closeFaulty (c : FrameClose) :
    (s.closeFaulty b c).holdings = s.holdings.plus c.cells.length := by
  simp only [closeFaulty]
  split
  · simp
  · simp

/-- R88: the cells of a forwardable frame go to its descriptor. -/
@[simp] theorem holdings_appendFrame (x : Tag) (c : FrameClose) :
    (s.appendFrame b x c).holdings = s.holdings.plus c.cells.length := by
  simp [appendFrame, holdings, Holdings.plus, Descriptor.cellCount, Nat.add_assoc]

end State

/-- What a close does to the cells and the links (R37, R42, R43): the frame's cells go to the Cell Store or to a descriptor, and
of its link the refused, discarded and overruns counters may rise. -/
def State.Settles (s t : State) (c : FrameClose) : Prop :=
  ∃ refused discarded overruns, t.holdings = ⟨s.holdings.cells + c.cells.length, s.feeders.set c.key.link
    { s.feeder c.key.link with refused := refused, discarded := discarded, overruns := overruns }⟩

theorem State.Settles.of_eq {s t : State} {c : FrameClose} (h : t.holdings = s.holdings.plus c.cells.length) :
    s.Settles t c :=
  ⟨(s.feeder c.key.link).refused, (s.feeder c.key.link).discarded, (s.feeder c.key.link).overruns,
    h.trans (congrArg (Holdings.mk _) (congrArg State.feeders (s.putFeeder_feeder c.key.link)).symm)⟩

/-- Table 5-A: a close for a LIVE record. -/
theorem State.settles_closeLive (s : State) (b : BindingNo) (c : FrameClose) : s.Settles (s.closeLive b c) c := by
  simp only [closeLive]
  split
  · split
    · split
      · exact .of_eq (by simp)
      · exact ⟨_, _, satSucc ((s.renewLease b).feeder c.key.link).overruns, by
          simp [queueFull, raisePart_eq, renewLease_eq, holdings, feeder, Nat.add_right_comm]; rfl⟩
    · exact .of_eq (by simp)
  · exact .of_eq (by simp)

/-- R37: the Binding Controller's handling of a close. -/
theorem State.settles_handleClose (s : State) (c : FrameClose) : s.Settles (s.handleClose c) c := by
  unfold handleClose
  split
  · unfold closeUnknown
    split
    · split
      · exact .of_eq (by simp)
      · exact ⟨satSucc (s.feeder c.key.link).refused, _, _, by
          simp [raisePart_eq, holdings, feeder, Nat.add_right_comm]; rfl⟩
    · exact .of_eq (by simp)
  next b _ =>
    split
    case h_1 => exact s.settles_closeLive b c
    case h_7 =>
      have counted (u : State) (h : u.holdings = ((s.returnCells c.cells.length).updateFeeder c.key.link
          fun l => { l with discarded := satSucc l.discarded }).holdings) : s.Settles u c :=
        ⟨_, satSucc (s.feeder c.key.link).discarded, _, h.trans (by
          simp [holdings, feeder, Nat.add_right_comm]; rfl)⟩
      simp only [closeRetiring]
      split
      · exact counted _ rfl
      · exact counted _ rfl
    all_goals exact .of_eq (by simp)

/-- R37, R43: a link after a close: its frame is gone, the frame seen and counted, and the refused, discarded and overruns
counters as the record the close reached leaves them. -/
theorem State.takeClose_holdings (s : State) (c : FrameClose) : ∃ refused discarded overruns,
    (s.takeClose c).holdings = ⟨s.holdings.cells + c.cells.length, s.feeders.set c.key.link
      { (s.feeder c.key.link).countClose c with
        frame := none, refused := refused, discarded := discarded, overruns := overruns }⟩ := by
  obtain ⟨refused, discarded, overruns, h⟩ :=
    (s.updateFeeder c.key.link fun l => { l.countClose c with frame := none }).settles_handleClose c
  refine ⟨refused, discarded, overruns, ?_⟩
  rw [takeClose, holdings_grantIfReleased, h]
  simp [holdings, feeder]

/-- R37: the close reaches its own link alone. -/
theorem State.takeClose_linksKept (s : State) (c : FrameClose) : s.linksKept (s.takeClose c) c.key.link := by
  obtain ⟨_, _, _, h⟩ := s.takeClose_holdings c
  intro m hm
  have links : (s.takeClose c).feeders = _ := congrArg Holdings.links h
  simp [feeder, links, Fin.val_ne_of_ne hm.symm]

theorem State.takeClose_feeder (s : State) (c : FrameClose) : ∃ refused discarded overruns,
    (s.takeClose c).feeder c.key.link = { (s.feeder c.key.link).countClose c with
      frame := none, refused := refused, discarded := discarded, overruns := overruns } := by
  obtain ⟨refused, discarded, overruns, h⟩ := s.takeClose_holdings c
  have links : (s.takeClose c).feeders = _ := congrArg Holdings.links h
  exact ⟨refused, discarded, overruns, by simp [feeder, links]⟩

/-! ### The law of the cells -/

/-- The cells of a link's open frame. -/
def FeederLink.held (f : FeederLink) : Nat := (f.frame.map OpenFrame.cellsHeld).getD 0

/-- Table 2-A for one link: a frame is open while UP only. -/
def FeederLink.FrameFits (f : FeederLink) : Prop := f.state ≠ .up → f.frame = none

theorem FeederLink.held_none {f : FeederLink} (h : f.frame = none) : f.held = 0 := by rw [held, h]; rfl

theorem FeederLink.held_some {f : FeederLink} {x : OpenFrame} (h : f.frame = some x) : f.held = x.cells.length := by
  rw [held, h]; rfl

/-- R39 with Table 2-A, as a law of what it reads. -/
def Holdings.Law (h : Holdings) : Prop :=
  h.cells + (∑ l : LinkNo, h.links[l].held) = Config.cellStoreSize ∧ ∀ l : LinkNo, h.links[l].FrameFits

theorem State.cellLaw_iff (s : State) : s.CellLaw ↔ s.holdings.Law := by
  have total : s.cellTotal = s.holdings.cells + ∑ l : LinkNo, s.holdings.links[l].held := by
    rw [Fin.sum_univ_def, cellTotal, Nat.add_right_comm]
    rfl
  rw [CellLaw, total]
  rfl

theorem State.CellLaw.congr {s t : State} (h : s.CellLaw) (same : t.holdings = s.holdings) : t.CellLaw := by
  rw [cellLaw_iff] at h ⊢
  rwa [same]

/-- R39: cells move between one link's frame and the rest of the part. -/
theorem State.CellLaw.move {s t : State} (h : s.CellLaw) {l : LinkNo} {f : FeederLink} (links : t.feeders = s.feeders.set l f)
    (cells : t.holdings.cells + f.held = s.holdings.cells + (s.feeder l).held)
    (fits : (s.feeder l).FrameFits → f.FrameFits) : t.CellLaw := by
  rw [cellLaw_iff] at h ⊢
  obtain ⟨total, frames⟩ := h
  have links' : t.holdings.links = s.feeders.set l f := links
  have read (m : LinkNo) : t.holdings.links[m] = if m = l then f else s.feeder m := by
    rw [links']
    split
    next e => rw [e]; simp
    next e => simp [feeder, Fin.val_ne_of_ne (Ne.symm e)]
  refine ⟨?_, fun m => ?_⟩
  · have split' := Finset.add_sum_erase Finset.univ (fun m : LinkNo => t.holdings.links[m].held) (Finset.mem_univ l)
    have split := Finset.add_sum_erase Finset.univ (fun m : LinkNo => s.holdings.links[m].held) (Finset.mem_univ l)
    have rest : ∑ m ∈ Finset.univ.erase l, t.holdings.links[m].held =
        ∑ m ∈ Finset.univ.erase l, s.holdings.links[m].held :=
      Finset.sum_congr rfl fun m hm => by rw [read, if_neg (Finset.ne_of_mem_erase hm)]; rfl
    have here' : t.holdings.links[l].held = f.held := by rw [read, if_pos rfl]
    have here : s.holdings.links[l].held = (s.feeder l).held := rfl
    omega
  · rw [read]
    split
    · exact fits (frames l)
    · exact frames m

/-- R37, R42: a close moves its frame's cells out of the frame and loses none. -/
theorem State.CellLaw.takeClose {s : State} (h : s.CellLaw) {l : LinkNo} {f : OpenFrame} (frame : (s.feeder l).frame = some f)
    (good truncated : Bool) : (s.takeClose (f.close l good truncated)).CellLaw := by
  obtain ⟨_, _, _, e⟩ := s.takeClose_holdings (f.close l good truncated)
  refine h.move (l := l) (congrArg Holdings.links e) ?_ fun _ _ => rfl
  rw [e, FeederLink.held_some frame, FeederLink.held_none rfl]
  rfl

end Sys2Proof.Machine

namespace Sys2Proof.Machine

set_option Elab.async false

/-! ### The commands that move no cell in or out of a frame -/

namespace State

variable (s : State) (b : BindingNo)

/-- R138, R139: a descriptor removed unsent gives its cells back. -/
@[simp] theorem holdings_dropDescriptor (d : Descriptor) : (s.dropDescriptor d).holdings = s.holdings.plus d.cellCount := by
  cases h : d.binding with
  | none => simp [dropDescriptor, dropFromRecord, h, holdings, Holdings.plus, Nat.add_right_comm]
  | some b => simp [dropDescriptor, dropFromRecord, h, holdings, Holdings.plus, Nat.add_right_comm]

/-- The descriptor in transmission leaves with its cells. -/
theorem removeSending_plus {d : Descriptor} (h : s.sending = some d) :
    s.removeSending.holdings.plus d.cellCount = s.holdings := by
  have taken := queueCells_eraseP h
  simp only [holdings, Holdings.plus, removeSending, Nat.add_assoc, taken]

@[simp] theorem holdings_cutOff : s.cutOff.holdings = s.holdings := by
  show (match s.trunk.output with
    | .busy .data _ => match s.sending with
      | some d => s.removeSending.dropDescriptor d
      | none => s
    | _ => s).holdings = s.holdings
  split
  · split
    next d sending => rw [holdings_dropDescriptor, s.removeSending_plus sending]
    · rfl
  · rfl

@[simp] theorem holdings_completeSend {d : Descriptor} (h : s.sending = some d) :
    (s.completeSend d).holdings = s.holdings := by
  have moved (u : State) (x : Option BindingNo) : (u.completeInFlight x).holdings = u.holdings := by
    cases x with
    | none => rfl
    | some b => simp [completeInFlight]
  rw [completeSend, moved]
  exact (holdings_returnCells ..).trans (s.removeSending_plus h)

/-- R139: a purge gives back the cells of what it removes. -/
theorem holdings_purge : s.purge.holdings = s.holdings := by
  obtain ⟨_, h⟩ := s.purge_frame
  have parts := queueCells_filter (·.inTransmission) s.trunk.queue
  have removed : ((s.trunk.queue.filter fun d => !d.inTransmission).map fun d => d.cells.length).sum =
      queueCells (s.trunk.queue.filter fun d => !d.inTransmission) := rfl
  rw [h, removed]
  simp only [holdings, Holdings.mk.injEq, and_true]
  omega

@[simp] theorem holdings_sessionLoss (target : Session) : (s.sessionLoss target).holdings = s.holdings := by
  simp only [sessionLoss, holdings_raisePart]
  exact s.holdings_purge

@[simp] theorem holdings_enterResync : s.enterResync.holdings = s.holdings := s.holdings_sessionLoss .resync

@[simp] theorem holdings_strandTag (x : Tag) (q : Byte) : (s.strandTag b x q).holdings = s.holdings := by
  rw [strandTag_eq]; rfl

@[simp] theorem holdings_removeEntry (q : Byte) : (s.removeEntry q).holdings = s.holdings := rfl

@[simp] theorem holdings_makeDue (q : Byte) : (s.makeDue q).holdings = s.holdings := by
  simp only [makeDue]
  split <;> rfl

@[simp] theorem holdings_exhaust (e : WindowEntry) : (s.exhaust e).holdings = s.holdings := by
  unfold exhaust
  split
  · simp
  · simp only [exhaustUnbind]
    split
    · simp
    · simp

@[simp] theorem holdings_timeoutEntry (e : WindowEntry) : (s.timeoutEntry e).holdings = s.holdings := by
  unfold timeoutEntry
  split
  · simp
  · simp

@[simp] theorem holdings_answerBindPending : (s.answerBindPending b).holdings = s.holdings := rfl

@[simp] theorem holdings_acknowledge (e : WindowEntry) : (s.acknowledge e).holdings = s.holdings := by
  simp only [acknowledge]
  split
  · simp
  · split
    · simp
    · simp
    · simp

@[simp] theorem holdings_refuseBind (e : WindowEntry) : (s.refuseBind e).holdings = s.holdings := by
  simp only [refuseBind]
  split
  · simp
  · simp
  · simp
  · simp
  · simp

@[simp] theorem holdings_nakEntry (e : WindowEntry) (r : NakReason) : (s.nakEntry e r).holdings = s.holdings := by
  unfold nakEntry
  split
  · simp
  · simp
  all_goals simp

@[simp] theorem holdings_lateReply (confirms : Bool) (q : Byte) : (s.lateReply confirms q).holdings = s.holdings := by
  unfold lateReply
  split
  · simp
  · rfl

@[simp] theorem holdings_startTimer (i : TxItem) : (s.startTimer i).holdings = s.holdings := by
  unfold startTimer
  split
  · rfl
  · split <;> rfl
  · rfl

@[simp] theorem holdings_sessionLineDown : s.sessionLineDown.holdings = s.holdings := by
  unfold sessionLineDown
  split
  · simp
  all_goals rfl

/-- An operation that leaves the cells leaves them when it is done over a list. -/
theorem holdings_foldl {α : Type} {f : State → α → State} (h : ∀ (u : State) (x : α), (f u x).holdings = u.holdings)
    (l : List α) (u : State) : (l.foldl f u).holdings = u.holdings := by
  induction l generalizing u with
  | nil => rfl
  | cons x l ih => rw [List.foldl_cons, ih, h]

@[simp] theorem holdings_openSession : s.openSession.holdings = s.holdings := by
  simp only [openSession, holdings_raisePart, holdings_grantIfReleased]
  rw [holdings_foldl fun u b => u.holdings_oweNotice b, holdings_foldl fun u b => u.holdings_completeRetirement b,
    holdings_foldl fun u x => u.holdings_releaseTag x]
  rfl

@[simp] theorem holdings_enterSilent : (s.enterSilent b).holdings = s.holdings := by simp [enterSilent]

@[simp] theorem holdings_expireLease : (s.expireLease b).holdings = s.holdings := by
  simp only [expireLease]
  split
  · split
    · simp
    · simp
  · split
    · simp
    · simp
  iterate 2
    · split
      · simp
      · simp
  all_goals rfl

@[simp] theorem holdings_sweepAct (a : SweepAction) : (s.sweepAct b a).holdings = s.holdings := by
  unfold sweepAct
  split
  · simp
  · rfl
  · split <;> rfl

@[simp] theorem holdings_sweepTest (j : SweepJob) : (s.sweepTest j b).holdings = s.holdings := by
  unfold sweepTest
  split
  · exact holdings_sweepAct ..
  · rfl

@[simp] theorem holdings_sweepAdvance : s.sweepAdvance.holdings = s.holdings := by
  simp only [sweepAdvance]
  split
  · exact holdings_raisePart ..
  · rfl

@[simp] theorem holdings_postSnapshot (clear : Bool) : (s.postSnapshot b clear).holdings = s.holdings := by
  simp only [postSnapshot]
  split <;> rfl

@[simp] theorem holdings_createProvisioned (k : Key) (c : ClassNo) (pinned : Bool) (x : Option Tag) :
    (s.createProvisioned b k c pinned x).holdings = s.holdings := by
  cases x <;> rfl

@[simp] theorem holdings_provisionWith (k : Key) (c : ClassNo) (pinned : Bool) (x : Option Tag) :
    (s.provisionWith k c pinned x).holdings = s.holdings := by
  unfold provisionWith
  split
  · simp
  · simp
  · simp
  · simp

@[simp] theorem holdings_ackRecord (mask : BitVec 5) : (s.ackRecord b mask).holdings = s.holdings := by
  unfold ackRecord
  split <;> rfl

theorem holdings_beginRetirements (l : List BindingNo) (c : RetireCause) :
    (l.foldl (fun u b => u.beginRetirement b c) s).holdings = s.holdings :=
  holdings_foldl (fun u b => u.holdings_beginRetirement b c) l s

end State

/-! ### One event -/

section
variable {s t : State} {Q : State → Prop}

/-- What an event keeps: it is taken whole or not at all (R194). -/
theorem takeEvent_keeps {f : State → State} (h : takeEvent s f = .next t) (hs : Q s) (hf : Q (f s)) : Q t := by
  obtain rfl := Host.Outcome.next.inj h
  split
  · exact hs
  · exact hf

theorem returnEvent_keeps {f : State → State} (h : returnEvent s f = .next t) (hs : Q s) (hf : Q (f s)) : Q t := by
  refine takeEvent_keeps h hs ?_
  split
  · exact hf
  · exact hs

theorem commandEvent_keeps {code : Byte} {f : State → State} (h : commandEvent s code f = .next t) (hs : Q s)
    (hf : Q (f s)) : Q t := by
  refine takeEvent_keeps h hs ?_
  split
  · exact hf
  · exact hs

end

/-! ### The commands that leave the cells and the links as they are -/

section
variable {s t : State}

theorem takeEvent_holdings {f : State → State} (h : takeEvent s f = .next t) (hf : (f s).holdings = s.holdings) :
    t.holdings = s.holdings :=
  takeEvent_keeps (Q := fun u => u.holdings = s.holdings) h rfl hf

theorem returnEvent_holdings {f : State → State} (h : returnEvent s f = .next t) (hf : (f s).holdings = s.holdings) :
    t.holdings = s.holdings :=
  returnEvent_keeps (Q := fun u => u.holdings = s.holdings) h rfl hf

theorem commandEvent_holdings {code : Byte} {f : State → State} (h : commandEvent s code f = .next t)
    (hf : (f s).holdings = s.holdings) : t.holdings = s.holdings :=
  commandEvent_keeps (Q := fun u => u.holdings = s.holdings) h rfl hf

/-! #### Timers -/

theorem execLeaseExpiry_holdings {b : BindingNo} (h : execLeaseExpiry b s = .next t) : t.holdings = s.holdings := by
  refine takeEvent_holdings h ?_
  split
  · simp
  · rfl

theorem execHoldOffExpiry_holdings (h : execHoldOffExpiry s = .next t) : t.holdings = s.holdings := by
  refine takeEvent_holdings h ?_
  simp only [State.holdings_arbitrate, State.holdings_grantEvent]
  rfl

theorem execHelloTimerExpiry_holdings (h : execHelloTimerExpiry s = .next t) : t.holdings = s.holdings := by
  refine takeEvent_holdings h ?_
  split
  · split
    · rw [State.holdings_arbitrate]
      split
      · rfl
      · exact State.holdings_raisePart ..
    · rfl
  · rfl

theorem execNoticeTimerExpiry_holdings {q : Byte} (h : execNoticeTimerExpiry q s = .next t) : t.holdings = s.holdings := by
  refine takeEvent_holdings h ?_
  split
  · split
    · simp
    · rfl
  · rfl

theorem execTimebaseTick_holdings (h : execTimebaseTick s = .next t) : t.holdings = s.holdings := by
  refine takeEvent_holdings h ?_
  rw [s.tick_eq]
  rfl

/-! #### The trunk and its replies -/

theorem execSendCompletion_holdings (h : execSendCompletion s = .next t) : t.holdings = s.holdings := by
  refine takeEvent_holdings h ?_
  split
  next d sending =>
    rw [State.holdings_arbitrate]
    exact (State.holdings_grantIfReleased _ s).trans (s.holdings_completeSend (State.sendingItem_sending sending))
  · rfl

theorem execNoticeEnd_holdings (h : execNoticeEnd s = .next t) : t.holdings = s.holdings := by
  refine takeEvent_holdings h ?_
  split
  · rw [State.holdings_arbitrate]
    exact s.holdings_startTimer _
  · rw [State.holdings_arbitrate]
    exact s.holdings_startTimer _
  · rfl
  · rfl

theorem execLineUp_holdings (h : execLineUp s = .next t) : t.holdings = s.holdings := by
  refine takeEvent_holdings h ?_
  split
  · rw [State.holdings_arbitrate]
    rfl
  · rfl

theorem execLineDown_holdings (h : execLineDown s = .next t) : t.holdings = s.holdings := by
  refine takeEvent_holdings h ?_
  have down : ({ s.cutOff with line := .down }.sessionLineDown).holdings = s.holdings :=
    (State.holdings_sessionLineDown _).trans s.holdings_cutOff
  split
  · simp only
    split
    · exact (State.holdings_moveDrained ..).trans down
    · exact down
  · rfl

theorem execCredit_holdings {increment : BitVec 16} (h : execCredit increment s = .next t) : t.holdings = s.holdings := by
  refine returnEvent_holdings h ?_
  split
  · rw [State.holdings_arbitrate]
    rfl
  · rfl

theorem execHelloAck_holdings {number : Byte} (h : execHelloAck number s = .next t) : t.holdings = s.holdings := by
  refine returnEvent_holdings h ?_
  split
  · simp
  · rfl

theorem execAck_holdings {q : Byte} (h : execAck q s = .next t) : t.holdings = s.holdings := by
  refine returnEvent_holdings h ?_
  split
  · simp
  · simp

theorem execNak_holdings {q : Byte} {r : NakReason} (h : execNak q r s = .next t) : t.holdings = s.holdings := by
  refine returnEvent_holdings h ?_
  split
  · simp
  · simp

theorem execResyncRequest_holdings (h : execResyncRequest s = .next t) : t.holdings = s.holdings := by
  refine returnEvent_holdings h ?_
  split
  · simp
  · rfl

/-! #### Sweeps -/

theorem execSweepVisit_holdings (h : execSweepVisit s = .next t) : t.holdings = s.holdings := by
  refine takeEvent_holdings h ?_
  split
  · split
    · split
      · simp
      · rfl
    · rfl
  · rfl

theorem execSweep_holdings (h : execSweep s = .next t) : t.holdings = s.holdings := by
  refine commandEvent_holdings h ?_
  split
  · rfl
  · split <;> rfl

theorem execAbortSweep_holdings (h : execAbortSweep s = .next t) : t.holdings = s.holdings := by
  refine commandEvent_holdings h ?_
  split
  · exact (State.holdings_raisePart { s with sweep.running := false, sweep.aborted := true } .sweepDone)
  · rfl

/-! #### The host port, records and settings -/

theorem State.holdings_setHost (s : State) (x : HostPort) : { s with host := x }.holdings = s.holdings := rfl

theorem execStatusWindowRead_holdings {address : BitVec 7} {length : Nat}
    (h : execStatusWindowRead address length s = .next t) : t.holdings = s.holdings := by
  refine takeEvent_holdings h ?_
  simp only
  split <;> rfl

theorem execCommandWrite_holdings {data : List Byte} (h : execCommandWrite data s = .next t) :
    t.holdings = s.holdings := by
  refine takeEvent_holdings h ?_
  split
  · exact s.holdings_setHost _
  · exact s.holdings_setHost _

theorem execGo_holdings {data : List Byte} (h : execGo data s = .next t) : t.holdings = s.holdings := by
  refine takeEvent_holdings h ?_
  split <;> rfl

theorem execUnknownCommand_holdings (h : execUnknownCommand s = .next t) : t.holdings = s.holdings := by
  refine takeEvent_holdings h ?_
  split <;> rfl

theorem execStatus_holdings (h : execStatus s = .next t) : t.holdings = s.holdings := by
  refine commandEvent_holdings h ?_
  split
  · rfl
  · simp only
    split <;> rfl

theorem execReadRecord_holdings (h : execReadRecord s = .next t) : t.holdings = s.holdings := by
  refine commandEvent_holdings h ?_
  split
  · simp
  · rfl

theorem execLookupKey_holdings (h : execLookupKey s = .next t) : t.holdings = s.holdings := by
  refine commandEvent_holdings h ?_
  split
  · split
    · simp
    · rfl
  · rfl

theorem execLookupTag_holdings (h : execLookupTag s = .next t) : t.holdings = s.holdings := by
  refine commandEvent_holdings h ?_
  split
  · split
    · simp
    · rfl
    · rfl
  · rfl

theorem execProvision_holdings (h : execProvision s = .next t) : t.holdings = s.holdings := by
  refine commandEvent_holdings h ?_
  split
  · simp
  · rfl

theorem execModify_holdings (h : execModify s = .next t) : t.holdings = s.holdings := by
  refine commandEvent_holdings h ?_
  split
  · split <;> rfl
  · rfl

theorem execRetire_holdings (h : execRetire s = .next t) : t.holdings = s.holdings := by
  refine commandEvent_holdings h ?_
  split
  · rfl
  · split
    · rfl
    · rfl
    · rfl
    · simp

theorem execReleaseTag_holdings (h : execReleaseTag s = .next t) : t.holdings = s.holdings := by
  refine commandEvent_holdings h ?_
  split
  · rfl
  · split
    · simp
    · rfl
    · rfl

theorem execNextAttention_holdings (h : execNextAttention s = .next t) : t.holdings = s.holdings := by
  refine commandEvent_holdings h ?_
  split
  · rfl
  · split <;> rfl

theorem execAckAttention_holdings (h : execAckAttention s = .next t) : t.holdings = s.holdings := by
  refine commandEvent_holdings h ?_
  split
  · split <;> rfl
  · split
    · simp
    · rfl

theorem execSetClass_holdings (h : execSetClass s = .next t) : t.holdings = s.holdings := by
  refine commandEvent_holdings h ?_
  split <;> rfl

theorem execSetTiming_holdings (h : execSetTiming s = .next t) : t.holdings = s.holdings := by
  refine commandEvent_holdings h ?_
  split
  · simp only [State.holdings_post, State.holdings_arbitrate, State.holdings_grantEvent]
    rfl
  · rfl

theorem execSetAttentionEnables_holdings (h : execSetAttentionEnables s = .next t) : t.holdings = s.holdings := by
  refine commandEvent_holdings h ?_
  split <;> rfl

theorem execTrunkOpen_holdings (h : execTrunkOpen s = .next t) : t.holdings = s.holdings := by
  refine commandEvent_holdings h ?_
  split
  · simp only [State.holdings_post, State.holdings_arbitrate, State.holdings_raisePart]
    rfl
  all_goals rfl

theorem execTrunkClose_holdings (h : execTrunkClose s = .next t) : t.holdings = s.holdings := by
  refine commandEvent_holdings h ?_
  split
  · rfl
  · exact State.holdings_raisePart ..
  all_goals
    rw [State.holdings_post, State.holdings_arbitrate]
    exact s.holdings_sessionLoss .closed

end

/-! ### The commands that move cells, or change a link -/

section
variable {s t : State}

/-- A change of a link that leaves its frame where it is, while the link is UP or has none. -/
theorem State.CellLaw.updateFeeder (h : s.CellLaw) (l : LinkNo) {f : FeederLink → FeederLink}
    (frame : (f (s.feeder l)).frame = (s.feeder l).frame)
    (fits : (s.feeder l).FrameFits → (f (s.feeder l)).FrameFits) : (s.updateFeeder l f).CellLaw := by
  refine h.move (l := l) rfl ?_ fits
  show s.holdings.cells + (f (s.feeder l)).held = _
  rw [FeederLink.held, frame]
  rfl

/-- A link has no frame open unless it is UP (Table 2-A). -/
theorem State.CellLaw.no_frame (h : s.CellLaw) {l : LinkNo} (state : (s.feeder l).state ≠ .up) : (s.feeder l).frame = none :=
  h.2 l state

theorem State.CellLaw.raisePart (h : s.CellLaw) (r : PartReason) : (s.raisePart r).CellLaw := h.congr (s.holdings_raisePart r)

theorem State.CellLaw.arbitrate (h : s.CellLaw) : s.arbitrate.CellLaw := h.congr s.holdings_arbitrate

/-- R33: an open frame begins with no cells. -/
theorem State.CellLaw.openFrame (h : s.CellLaw) {l : LinkNo} (up : (s.feeder l).state = .up)
    (frame : (s.feeder l).frame = none) (format : Fin 16) (stream : StreamNo) (n : Byte) :
    (s.openFrame l format stream n).CellLaw := by
  refine h.move (l := l) rfl ?_ fun _ notUp => absurd up notUp
  rw [FeederLink.held_none frame]
  rfl

/-- R40: a frame's cells and the Cell Store's, in exchange. -/
theorem State.CellLaw.setFrame {u : State} (h : s.CellLaw) {l : LinkNo} {f g : OpenFrame} (up : (s.feeder l).state = .up)
    (frame : (s.feeder l).frame = some f) (links : u.feeders = s.feeders)
    (cells : u.holdings.cells + g.cells.length = s.holdings.cells + f.cells.length) : (u.setFrame l g).CellLaw := by
  have same : u.feeder l = s.feeder l := congrArg (·[l]) links
  refine h.move (l := l) (f := { s.feeder l with frame := some g }) ?_ ?_ fun _ notUp => absurd up notUp
  · rw [State.setFrame, State.updateFeeder_eq, same]
    exact congrArg (Vector.set · l.val _ _) links
  · rw [FeederLink.held_some rfl, FeederLink.held_some frame]
    exact cells

/-- R34, R40, R41: a CELL marker takes one cell, gives all the frame's cells back, or moves none. -/
theorem State.CellLaw.takeCell (h : s.CellLaw) {l : LinkNo} {f : OpenFrame} (up : (s.feeder l).state = .up)
    (frame : (s.feeder l).frame = some f) (payload : List Byte) : (s.takeCell l f payload).CellLaw := by
  simp only [State.takeCell]
  split
  · exact h.setFrame up frame rfl rfl
  · split
    · unfold State.reserveCell
      split
      next free =>
        refine h.setFrame up frame rfl ?_
        simp [State.holdings, OpenFrame.countCell]
        omega
      · refine (h.setFrame (u := s.returnCells _) up frame rfl ?_).raisePart _
        simp [State.holdings, OpenFrame.countCell, OpenFrame.giveUp, OpenFrame.cellsHeld]
        omega
    · refine h.setFrame up frame rfl ?_
      simp [State.holdings, OpenFrame.countCell, OpenFrame.giveUp, OpenFrame.cellsHeld]
      omega

/-- R35: a frame's truncated close. -/
theorem State.truncateFrame_feeder (s : State) (l : LinkNo) (f : OpenFrame) : ∃ refused discarded overruns,
    (s.truncateFrame l f).feeder l = { s.feeder l with
      frame := none, framesSeen := satSucc (s.feeder l).framesSeen, badFrames := satSucc (s.feeder l).badFrames
      refused := refused, discarded := discarded, overruns := overruns } :=
  s.takeClose_feeder (f.close l false true)

/-- R29: a link without a frame loses its lock. -/
theorem State.CellLaw.loseLock (h : s.CellLaw) {l : LinkNo} (frame : (s.feeder l).frame = none) : (s.loseLock l).CellLaw :=
  (h.updateFeeder l frame.symm fun _ _ => rfl).raisePart _

theorem execOpenMarker_cellLaw {l : LinkNo} {format : Fin 16} {stream : StreamNo} {n : Byte} (law : s.CellLaw)
    (h : execOpenMarker l format stream n s = .next t) : t.CellLaw := by
  refine takeEvent_keeps h law ?_
  split
  next up =>
    split
    next frame => exact law.openFrame up frame format stream n
    next f frame =>
      obtain ⟨_, _, _, after⟩ := s.truncateFrame_feeder l f
      exact ((law.takeClose frame false true).openFrame (by rw [← State.truncateFrame, after]; exact up)
        (by rw [← State.truncateFrame, after]) format stream n).arbitrate
  · exact law

theorem execCellMarker_cellLaw {l : LinkNo} {payload : List Byte} (law : s.CellLaw)
    (h : execCellMarker l payload s = .next t) : t.CellLaw := by
  refine takeEvent_keeps h law ?_
  split
  next up =>
    split
    · exact law
    next f frame => exact law.takeCell up frame payload
  · exact law

theorem execFrameClose_cellLaw {l : LinkNo} {declared : Byte} {crc : BitVec 16} (law : s.CellLaw)
    (h : execFrameClose l declared crc s = .next t) : t.CellLaw := by
  refine takeEvent_keeps h law ?_
  split
  · split
    · exact law
    next f frame => exact (law.takeClose frame _ false).arbitrate
  · exact law

theorem execLineLock_cellLaw {l : LinkNo} (law : s.CellLaw) (h : execLineLock l s = .next t) : t.CellLaw := by
  refine takeEvent_keeps h law ?_
  split
  next seeking =>
    have frame := law.no_frame (l := l) (by rw [seeking]; decide)
    exact (law.updateFeeder l frame.symm fun _ _ => rfl).raisePart _
  · exact law

theorem execLockLoss_cellLaw {l : LinkNo} (law : s.CellLaw) (h : execLockLoss l s = .next t) : t.CellLaw := by
  refine takeEvent_keeps h law ?_
  split
  · split
    next frame => exact law.loseLock frame
    next f frame =>
      obtain ⟨_, _, _, after⟩ := s.truncateFrame_feeder l f
      exact ((law.takeClose frame false true).loseLock (by rw [← State.truncateFrame, after])).arbitrate
  · exact law

/-- R28: a DISABLED link has no frame, and goes SEEKING without one. -/
theorem State.CellLaw.enableLink (h : s.CellLaw) (l : LinkNo) : (s.enableLink l).CellLaw := by
  unfold State.enableLink
  split
  next disabled =>
    have frame := h.no_frame (l := l) (by rw [disabled]; decide)
    exact (h.updateFeeder l rfl fun _ _ => frame).raisePart _
  · exact h

/-- R31 step 1: an abandoned frame's cells return. -/
theorem State.CellLaw.abandonFrame (h : s.CellLaw) (l : LinkNo) :
    (s.abandonFrame l).CellLaw ∧ ((s.abandonFrame l).feeder l).frame = none := by
  unfold State.abandonFrame
  split
  next f frame =>
    refine ⟨h.move (l := l) (f := { s.feeder l with frame := none }) rfl ?_ fun _ _ => rfl, ?_⟩
    · rw [FeederLink.held_none rfl, FeederLink.held_some frame]
      exact congrArg Holdings.cells (s.holdings_returnCells _)
    · rw [State.feeder_updateFeeder_self]
  next frame => exact ⟨h, frame⟩

/-- R31: a link switched off has no frame left. -/
theorem State.CellLaw.disableLink (h : s.CellLaw) (l : LinkNo) : (s.disableLink l).CellLaw := by
  obtain ⟨law, frame⟩ := h.abandonFrame l
  have off : ((s.abandonFrame l).switchOff l).CellLaw := by
    unfold State.switchOff
    split
    · exact law
    · exact (law.updateFeeder l rfl fun _ _ => frame).raisePart _
  exact off.congr (State.holdings_beginRetirements ..)

theorem execSetLink_cellLaw (law : s.CellLaw) (h : execSetLink s = .next t) : t.CellLaw := by
  refine commandEvent_keeps h law ?_
  split
  next l enable c _ _ _ =>
    have first : (s.updateFeeder l fun f => { f with defaultClass := c }).CellLaw := law.updateFeeder l rfl id
    simp only
    refine State.CellLaw.congr ?_ (State.holdings_post ..)
    split
    · exact first.enableLink l
    · exact ((first.disableLink l).congr (State.holdings_grantIfReleased ..)).arbitrate
  · exact law

theorem execReadLink_cellLaw (law : s.CellLaw) (h : execReadLink s = .next t) : t.CellLaw := by
  refine commandEvent_keeps h law ?_
  split
  next l clear _ _ =>
    have posted : (s.post .ok (linkBytes l (s.feeder l))).CellLaw := law.congr rfl
    simp only
    split
    · exact posted.updateFeeder l rfl id
    · exact posted
  · exact law

/-- A queue whose links hold no frame leaves the rest of the 1536 cells free. -/
theorem State.cellLaw_of_no_frames (frames : ∀ l, (t.feeder l).frame = none)
    (cells : t.holdings.cells = Config.cellStoreSize) : t.CellLaw := by
  rw [State.cellLaw_iff]
  refine ⟨?_, fun l _ => frames l⟩
  have none : ∑ l : LinkNo, t.holdings.links[l].held = 0 := Finset.sum_eq_zero fun l _ => FeederLink.held_none (frames l)
  rw [none]
  exact cells

/-- R46: after RESTART the cells are free but for those of the DATA frame in transmission. -/
theorem State.CellLaw.restarted (h : s.CellLaw) : s.restarted.CellLaw := by
  refine State.cellLaw_of_no_frames (fun l => ?_) ?_
  · simp [State.restarted, State.feeder, FeederLink.restarted, FeederLink.initial]
  · have kept : queueCells (restartedQueue s.trunk.queue) = queueCells (s.trunk.queue.filter (·.inTransmission)) := by
      rw [queueCells, restartedQueue, List.map_map]
      rfl
    have parts := queueCells_filter (·.inTransmission) s.trunk.queue
    have total : s.cellTotal = Config.cellStoreSize := h.1
    rw [State.cellTotal] at total
    show Config.cellStoreSize - queueCells (restartedQueue s.trunk.queue) + queueCells (restartedQueue s.trunk.queue) = _
    omega

theorem execRestart_cellLaw (law : s.CellLaw) (h : execRestart s = .next t) : t.CellLaw :=
  commandEvent_keeps h law (law.restarted.congr rfl)

theorem execResetAssertion_holdings (h : execResetAssertion s = .next t) : t.holdings = s.holdings := by
  obtain rfl := Host.Outcome.next.inj h
  rfl

theorem execPowerOnReset_cellLaw (h : execPowerOnReset s = .next t) : t.CellLaw := by
  obtain rfl := Host.Outcome.next.inj h
  exact State.cellLaw_reset.congr rfl

/-- Every command keeps the 1536 cells. -/
theorem exec_cellLaw {c : Instr} (law : s.CellLaw) (h : exec c s = .next t) : t.CellLaw := by
  cases c with
  | openMarker => exact execOpenMarker_cellLaw law h
  | cellMarker => exact execCellMarker_cellLaw law h
  | frameClose => exact execFrameClose_cellLaw law h
  | lineLock => exact execLineLock_cellLaw law h
  | lockLoss => exact execLockLoss_cellLaw law h
  | setLink => exact execSetLink_cellLaw law h
  | readLink => exact execReadLink_cellLaw law h
  | restart => exact execRestart_cellLaw law h
  | powerOnReset => exact execPowerOnReset_cellLaw h
  | leaseExpiry => exact law.congr (execLeaseExpiry_holdings h)
  | holdOffExpiry => exact law.congr (execHoldOffExpiry_holdings h)
  | sendCompletion => exact law.congr (execSendCompletion_holdings h)
  | noticeEnd => exact law.congr (execNoticeEnd_holdings h)
  | lineUp => exact law.congr (execLineUp_holdings h)
  | lineDown => exact law.congr (execLineDown_holdings h)
  | credit => exact law.congr (execCredit_holdings h)
  | helloAck => exact law.congr (execHelloAck_holdings h)
  | ack => exact law.congr (execAck_holdings h)
  | nak => exact law.congr (execNak_holdings h)
  | resyncRequest => exact law.congr (execResyncRequest_holdings h)
  | helloTimerExpiry => exact law.congr (execHelloTimerExpiry_holdings h)
  | noticeTimerExpiry => exact law.congr (execNoticeTimerExpiry_holdings h)
  | sweepVisit => exact law.congr (execSweepVisit_holdings h)
  | statusWindowRead => exact law.congr (execStatusWindowRead_holdings h)
  | commandWrite => exact law.congr (execCommandWrite_holdings h)
  | go data => exact law.congr (execGo_holdings (data := data) h)
  | unknownCommand => exact law.congr (execUnknownCommand_holdings h)
  | status => exact law.congr (execStatus_holdings h)
  | readRecord => exact law.congr (execReadRecord_holdings h)
  | lookupKey => exact law.congr (execLookupKey_holdings h)
  | lookupTag => exact law.congr (execLookupTag_holdings h)
  | provision => exact law.congr (execProvision_holdings h)
  | modify => exact law.congr (execModify_holdings h)
  | retire => exact law.congr (execRetire_holdings h)
  | releaseTag => exact law.congr (execReleaseTag_holdings h)
  | nextAttention => exact law.congr (execNextAttention_holdings h)
  | ackAttention => exact law.congr (execAckAttention_holdings h)
  | setClass => exact law.congr (execSetClass_holdings h)
  | setTiming => exact law.congr (execSetTiming_holdings h)
  | setAttentionEnables => exact law.congr (execSetAttentionEnables_holdings h)
  | trunkOpen => exact law.congr (execTrunkOpen_holdings h)
  | trunkClose => exact law.congr (execTrunkClose_holdings h)
  | sweep => exact law.congr (execSweep_holdings h)
  | abortSweep => exact law.congr (execAbortSweep_holdings h)
  | resetAssertion => exact law.congr (execResetAssertion_holdings h)
  | timebaseTick => exact law.congr (execTimebaseTick_holdings h)
  | unrecognisedMarker | ignoredWrite => exact takeEvent_keeps (f := id) h law law
  | discardedReturnMessage => exact returnEvent_keeps (f := id) h law law

end

/-- Settles O52: a command leaves the cells where they are, or moves them between one link's frame and the rest of the part. -/
theorem cellLawKept : Obligations.CellLawKept := by
  intro s t law h
  unfold step at h
  split at h
  · obtain rfl := Host.Outcome.next.inj h
    exact law
  next c rest _ => exact exec_cellLaw (s := { s with pending := rest }) (law.congr rfl) h

end Sys2Proof.Machine

namespace Sys2Proof.Machine

set_option Elab.async false

/-! ### Markers on an UP link -/

section
variable {s : State} {l : LinkNo}

/-- R33: with no frame open an OPEN marker opens one. -/
theorem execOpenMarker_no_frame (awake : s.awake) (up : (s.feeder l).state = .up) (frame : (s.feeder l).frame = none)
    (format : Fin 16) (stream : StreamNo) (n : Byte) :
    exec (.openMarker l format stream n) s = .next (s.openFrame l format stream n) := by
  show execOpenMarker l format stream n s = _
  rw [execOpenMarker, takeEvent_awake awake, if_pos up, frame]

/-- R35: with a frame open, its truncated close comes first. -/
theorem execOpenMarker_frame {f : OpenFrame} (awake : s.awake) (up : (s.feeder l).state = .up)
    (frame : (s.feeder l).frame = some f) (format : Fin 16) (stream : StreamNo) (n : Byte) :
    exec (.openMarker l format stream n) s = .next ((s.truncateFrame l f).openFrame l format stream n).arbitrate := by
  show execOpenMarker l format stream n s = _
  rw [execOpenMarker, takeEvent_awake awake, if_pos up, frame]

/-- R30: a stray CELL marker. -/
theorem execCellMarker_no_frame (awake : s.awake) (up : (s.feeder l).state = .up) (frame : (s.feeder l).frame = none)
    (payload : List Byte) : exec (.cellMarker l payload) s = .next s := by
  show execCellMarker l payload s = _
  rw [execCellMarker, takeEvent_awake awake, if_pos up, frame]

theorem execCellMarker_frame {f : OpenFrame} (awake : s.awake) (up : (s.feeder l).state = .up)
    (frame : (s.feeder l).frame = some f) (payload : List Byte) :
    exec (.cellMarker l payload) s = .next (s.takeCell l f payload) := by
  show execCellMarker l payload s = _
  rw [execCellMarker, takeEvent_awake awake, if_pos up, frame]

/-- R30: a stray CLOSE marker. -/
theorem execFrameClose_no_frame (awake : s.awake) (up : (s.feeder l).state = .up) (frame : (s.feeder l).frame = none)
    (declared : Byte) (crc : BitVec 16) : exec (.frameClose l declared crc) s = .next s := by
  show execFrameClose l declared crc s = _
  rw [execFrameClose, takeEvent_awake awake, if_pos up, frame]

theorem execFrameClose_frame {f : OpenFrame} (awake : s.awake) (up : (s.feeder l).state = .up)
    (frame : (s.feeder l).frame = some f) (declared : Byte) (crc : BitVec 16) : exec (.frameClose l declared crc) s =
      .next (s.takeClose (f.close l (!f.badAtClose declared crc) false)).arbitrate := by
  show execFrameClose l declared crc s = _
  rw [execFrameClose, takeEvent_awake awake, if_pos up, frame]

/-- Settles O5: an OPEN marker is `State.openFrame`, its storage that of `State.storageFor`. -/
theorem openMarkerOpensFrame : Obligations.OpenMarkerOpensFrame := by
  intro l format stream n s awake up frame
  rw [execOpenMarker_no_frame awake up frame]
  rfl

/-- Settles O8: with no frame open only an OPEN marker does anything. -/
theorem strayMarkersAreDiscarded : Obligations.StrayMarkersAreDiscarded := by
  intro l s awake up frame
  refine ⟨execCellMarker_no_frame awake up frame, execFrameClose_no_frame awake up frame, fun format stream n => ?_⟩
  exact ⟨_, _, execOpenMarker_no_frame awake up frame format stream n,
    congrArg FeederLink.frame (s.feeder_updateFeeder_self l _), rfl, rfl, rfl⟩

/-! ### The close of a truncated frame (R35) -/

/-- R37: a close leaves the RESET pin alone. -/
theorem State.takeClose_awake (awake : s.awake) (c : FrameClose) : (s.takeClose c).awake := by
  obtain ⟨_, _, _, _, _, _, _, h⟩ := s.closeFrame_takeClose c
  rw [h]
  exact awake

/-- R33: the storage decision reads the states and keys of the records alone. -/
theorem State.storageFor_congr {t : State}
    (h : ∀ b, (t.record b).state = (s.record b).state ∧ (t.record b).key = (s.record b).key) (k : Key) : t.storageFor k = s.storageFor k := by
  simp only [storageFor, resolveKey, fun b => (h b).1, fun b => (h b).2]

/-- The arbiter changes no storage decision. -/
theorem State.storageFor_arbitrate (s : State) (k : Key) : s.arbitrate.storageFor k = s.storageFor k :=
  storageFor_congr (fun b => by rw [s.arbitrate_record b]; exact ⟨rfl, rfl⟩) k

theorem State.feeder_arbitrate (s : State) (l : LinkNo) : s.arbitrate.feeder l = s.feeder l :=
  congrArg (·[l]) s.arbitrate_feeders

/-- Settles O6: the truncated close leaves the link UP with no frame, so that the marker opens its frame on the state that close
left; the arbiter's choice changes neither the link nor the storage decision. -/
theorem openMarkerTruncates : Obligations.OpenMarkerTruncates := by
  intro l format stream n s f awake up frame
  obtain ⟨_, _, _, closed⟩ := s.truncateFrame_feeder l f
  have reopened : exec (.openMarker l format stream n) (s.truncateFrame l f) =
      .next ((s.truncateFrame l f).openFrame l format stream n) :=
    execOpenMarker_no_frame (s := s.truncateFrame l f) (State.takeClose_awake awake _) (by rw [closed]; exact up)
      (by rw [closed]) format stream n
  have link : ((s.truncateFrame l f).openFrame l format stream n).arbitrate.feeder l =
      { (s.truncateFrame l f).feeder l with
        frame := some (OpenFrame.opened format stream n ((s.truncateFrame l f).storageFor ⟨l, stream⟩)) } :=
    (State.feeder_arbitrate _ l).trans (State.feeder_updateFeeder_self ..)
  refine ⟨s.truncateFrame l f, _, _, execOpenMarker_frame awake up frame format stream n, rfl, reopened, rfl, ?_, ?_, ?_, ?_,
    fun m hm => ?_⟩
  · have storage := State.storageFor_arbitrate ((s.truncateFrame l f).openFrame l format stream n) ⟨l, stream⟩
    have before : ((s.truncateFrame l f).openFrame l format stream n).storageFor ⟨l, stream⟩ =
        (s.truncateFrame l f).storageFor ⟨l, stream⟩ := rfl
    rw [link, ← before, ← storage]
    rfl
  · rw [link, closed]
    exact up
  · rw [link, closed]
  · rw [link, closed]
  · rw [State.feeder_arbitrate, State.openFrame, State.feeder_updateFeeder_ne _ _ hm]
    exact s.takeClose_linksKept _ m hm

/-! ### Line lock and lock loss (R29) -/

/-- R29: the link of a lost lock. -/
theorem State.loseLock_eq (frame : (s.feeder l).frame = none) : s.loseLock l =
    { s with attention.part := s.partAfter 0x20#6 }.putFeeder l
      { s.feeder l with state := .seeking, lockLosses := satSucc (s.feeder l).lockLosses } := by
  rw [loseLock, raisePart_eq, updateFeeder_eq, ← frame]
  rfl

theorem execLineLock_seeking (awake : s.awake) (seeking : (s.feeder l).state = .seeking) : exec (.lineLock l) s =
    .next ({ s with attention.part := s.partAfter 0x20#6 }.putFeeder l { s.feeder l with state := .up, frame := none }) := by
  show execLineLock l s = _
  rw [execLineLock, takeEvent_awake awake, if_pos seeking, State.raisePart_eq]
  rfl

theorem execLockLoss_no_frame (awake : s.awake) (up : (s.feeder l).state = .up) (frame : (s.feeder l).frame = none) :
    exec (.lockLoss l) s = .next (s.loseLock l) := by
  show execLockLoss l s = _
  rw [execLockLoss, takeEvent_awake awake, if_pos up, frame]

theorem execLockLoss_frame {f : OpenFrame} (awake : s.awake) (up : (s.feeder l).state = .up)
    (frame : (s.feeder l).frame = some f) : exec (.lockLoss l) s = .next ((s.truncateFrame l f).loseLock l).arbitrate := by
  show execLockLoss l s = _
  rw [execLockLoss, takeEvent_awake awake, if_pos up, frame]

/-- Settles O10: the truncated close of an open frame leaves the link without one, and the link then loses its lock. -/
theorem lineLockAndLockLoss : Obligations.LineLockAndLockLoss := by
  intro l s awake
  refine ⟨execLineLock_seeking awake, fun up frame => ?_, fun f up frame => ?_, fun other => ?_, fun other => ?_⟩
  · rw [execLockLoss_no_frame awake up frame, State.loseLock_eq frame]
  · obtain ⟨_, _, _, closed⟩ := s.truncateFrame_feeder l f
    have run := execLockLoss_frame awake up frame
    rw [State.loseLock_eq (by rw [closed])] at run
    refine ⟨s.truncateFrame l f, _, rfl, run, rfl, ?_, ?_⟩
    · rw [State.feeder_arbitrate, State.feeder_putFeeder_self, closed]
    · rw [State.feeder_arbitrate, State.feeder_putFeeder_self, closed]
  · show execLineLock l s = _
    rw [execLineLock, takeEvent_awake awake, if_neg other]
  · show execLockLoss l s = _
    rw [execLockLoss, takeEvent_awake awake, if_neg other]

/-! ### The judgement of a frame (R36) -/

theorem OpenFrame.badAtClose_iff (f : OpenFrame) (declared : Byte) (crc : BitVec 16) : f.badAtClose declared crc = true ↔
    f.parityFailed = true ∨ f.cellsReceived = 0 ∨ 96 < f.cellsReceived ∨ declared.toNat ≠ f.cellsReceived ∨ crc ≠ f.crc := by
  simp only [badAtClose, Bool.or_eq_true, beq_iff_eq, decide_eq_true_eq, bne_iff_ne, or_assoc]

/-- Settles O11: the close carries the frame's items, and is good unless R36 judges the frame bad. -/
theorem frameCloseIsJudged : Obligations.FrameCloseIsJudged := by
  intro l declared crc s f awake up frame
  obtain ⟨_, _, _, closed⟩ := s.takeClose_feeder (f.close l (!f.badAtClose declared crc) false)
  refine ⟨_, execFrameClose_frame awake up frame declared crc, rfl, rfl, rfl, rfl, beq_iff_eq, rfl, rfl, ?_,
    congrArg FeederLink.frame closed⟩
  rw [← f.badAtClose_iff declared crc]
  simp [OpenFrame.close]

/-! ### CELL markers (R34, R40, R41, R195) -/

/-- R34: one bit into the CRC register. -/
theorem crcBit_eq (c : BitVec 16) (b : Bool) :
    crcBit c b = if c.getLsbD 15 = b then c <<< 1 else (c <<< 1) ^^^ 0x1021#16 := by
  have top : c.msb = c.getLsbD 15 := BitVec.msb_eq_getLsbD_last c
  rw [crcBit, top]
  by_cases h : c.getLsbD 15 = b
  · rw [if_pos h, if_neg (by rw [h, bne_self_eq_false]; decide)]
  · rw [if_neg h, if_pos (bne_iff_ne.mpr h)]

/-- R34: one byte into the CRC register, bit 7 first. -/
theorem crcByte_eq (c : BitVec 16) (x : Byte) : crcByte c x = (List.range 8).foldl (fun (c : BitVec 16) i =>
    if c.getLsbD 15 = x.getLsbD (7 - i) then c <<< 1 else (c <<< 1) ^^^ 0x1021#16) c := by
  have order : [7, 6, 5, 4, 3, 2, 1, 0] = (List.range 8).map (7 - ·) := rfl
  rw [crcByte, order, List.foldl_map]
  simp only [crcBit_eq]

/-- R195: the parity verdict. -/
theorem cellParityFails_iff (payload : List Byte) :
    cellParityFails payload = false ↔ payload.length = 33 ∧ payload.foldl (· ^^^ ·) 0#8 = 0#8 := by
  simp [cellParityFails, xorBytes]

theorem cellData_length (payload : List Byte) : (cellData payload).length = 32 := by simp [cellData]

/-- R195: byte `i` of a cell, 00h where the marker is too short. -/
theorem cellData_getD (payload : List Byte) {i : Nat} (h : i < 32) :
    (cellData payload).getD i 0#8 = if h : i < payload.length then payload[i] else 0x00#8 := by
  rw [List.getD_eq_getElem _ _ (by rw [cellData_length]; exact h)]
  simp only [cellData, List.getElem_map, List.getElem_range]
  split
  next inside => exact List.getD_eq_getElem _ _ inside
  next outside => exact List.getD_eq_default _ _ (Nat.le_of_not_lt outside)

section
variable {f : OpenFrame} {payload : List Byte}

/-- R34: a TRACKED frame counts the cell alone. -/
theorem State.takeCell_tracked (storage : f.storage = .tracked) :
    s.takeCell l f payload = s.setFrame l (f.countCell payload) := by
  have storage' : (f.countCell payload).storage = .tracked := storage
  simp only [takeCell, storage']

/-- R40, R41: a STORED frame within 96 cells reserves a cell. -/
theorem State.takeCell_stored (storage : f.storage = .stored) (within : (f.countCell payload).cellsReceived ≤ 96) :
    s.takeCell l f payload = s.reserveCell l (f.countCell payload) (cellData payload) := by
  have storage' : (f.countCell payload).storage = .stored := storage
  simp only [takeCell, storage']
  exact if_pos within

/-- R34: a STORED frame gives its cells up at the 97th. -/
theorem State.takeCell_overlength (storage : f.storage = .stored) (passed : (f.countCell payload).cellsReceived = 97) :
    s.takeCell l f payload = (s.returnCells f.cells.length).setFrame l (f.countCell payload).giveUp := by
  have storage' : (f.countCell payload).storage = .stored := storage
  simp only [takeCell, storage']
  exact if_neg (by rw [passed]; decide)

end

/-- Settles O7: the cell is counted, and by the frame's storage, the count and the free cells the frame is left, reserves a cell,
or gives its cells up. -/
theorem cellMarkerAddsToFrame : Obligations.CellMarkerAddsToFrame := by
  intro l payload s f awake up frame data counted put
  have run := execCellMarker_frame awake up frame payload
  refine ⟨cellParityFails_iff payload, ⟨cellData_length payload, fun i => cellData_getD payload⟩,
    fun c => ⟨rfl, fun x rest => ?_⟩, fun storage => ?_, fun storage within free => ?_, fun storage within full => ?_,
    fun storage passed => ?_⟩
  · rw [← crcByte_eq]
    rfl
  · rw [run, State.takeCell_tracked storage]
    rfl
  · rw [run, State.takeCell_stored storage within, State.reserveCell, if_pos free]
    rfl
  · rw [run, State.takeCell_stored storage within, State.reserveCell, if_neg (by rw [full]; decide), State.raisePart_eq,
      State.returnCells, full, Nat.zero_add]
    rfl
  · rw [run, State.takeCell_overlength storage passed]
    rfl

end

end Sys2Proof.Machine

namespace Sys2Proof.Machine

set_option Elab.async false

/-! ### SET LINK (R28, R31, R189) -/

section
variable {s : State} {l : LinkNo} {c : ClassNo}

/-- R28: SET LINK writes the default class first. -/
def State.withDefaultClass (s : State) (l : LinkNo) (c : ClassNo) : State :=
  s.updateFeeder l fun f => { f with defaultClass := c }

/-- R189: the operands of an ENABLE read. -/
theorem execSetLink_enable (h : s.inHand 0x0C#8) (h1 : s.op 1 = l.val) (h2 : s.op 2 = 1) (h3 : s.op 3 = c.val) :
    exec .setLink s = .next (((s.withDefaultClass l c).enableLink l).post .ok
      [byteOf (((s.withDefaultClass l c).enableLink l).feeder l).state.code, byteOf 0]) := by
  show execSetLink s = _
  rw [execSetLink, commandEvent_inHand h, State.operand, State.operand, State.operand, below_of_toNat h1,
    flagOperand_of_toNat (f := true) h2, below_of_toNat h3]
  simp only [if_true]
  rfl

/-- R31: a DISABLE as an event, its grants and the arbiter's choice included (logs 16, 18). -/
def State.disabledByHost (s : State) (l : LinkNo) (c : ClassNo) : State :=
  (((s.withDefaultClass l c).disableLink l).grantIfReleased s).arbitrate

/-- R189: the operands of a DISABLE read. -/
theorem execSetLink_disable (h : s.inHand 0x0C#8) (h1 : s.op 1 = l.val) (h2 : s.op 2 = 0) (h3 : s.op 3 = c.val) :
    exec .setLink s = .next ((s.disabledByHost l c).post .ok
      [byteOf ((s.disabledByHost l c).feeder l).state.code, byteOf (s.linkRecords l).length]) := by
  show execSetLink s = _
  rw [execSetLink, commandEvent_inHand h, State.operand, State.operand, State.operand, below_of_toNat h1,
    flagOperand_of_toNat (f := false) h2, below_of_toNat h3]
  simp only [Bool.false_eq_true, if_false]
  rfl

/-- R28: ENABLE of a DISABLED link. -/
theorem State.enableLink_disabled (disabled : (s.feeder l).state = .disabled) : (s.withDefaultClass l c).enableLink l =
    { s with attention := { s.attention with part := s.partAfter 0x20#6 } }.putFeeder l
      { s.feeder l with state := .seeking, defaultClass := c } := by
  have still : ((s.withDefaultClass l c).feeder l).state = .disabled := by
    rw [withDefaultClass, feeder_updateFeeder_self]
    exact disabled
  rw [enableLink, if_pos still, raisePart_eq, withDefaultClass, updateFeeder_eq, updateFeeder_eq, feeder_putFeeder_self,
    putFeeder_putFeeder]
  rfl

/-- R28: ENABLE of a link that is enabled. -/
theorem State.enableLink_enabled (enabled : (s.feeder l).state ≠ .disabled) :
    (s.withDefaultClass l c).enableLink l = s.putFeeder l { s.feeder l with defaultClass := c } := by
  have still : ((s.withDefaultClass l c).feeder l).state ≠ .disabled := by
    rw [withDefaultClass, feeder_updateFeeder_self]
    exact enabled
  rw [enableLink, if_neg still]
  rfl

/-- R31 step 1: the frame is gone and its cells are back. -/
theorem State.abandonFrame_eq (s : State) (l : LinkNo) : s.abandonFrame l =
    { s with freeCells := s.freeCells + (s.feeder l).held }.putFeeder l { s.feeder l with frame := none } := by
  unfold abandonFrame
  split
  next f frame =>
    rw [FeederLink.held_some frame]
    rfl
  next frame =>
    rw [FeederLink.held_none frame, ← frame]
    exact (s.putFeeder_feeder l).symm

/-- R31 steps 1 and 2: the link goes DISABLED, its frame's cells return, and LINK is raised if it was enabled. -/
theorem State.switchOff_abandonFrame (s : State) (l : LinkNo) (c : ClassNo) :
    ((s.withDefaultClass l c).abandonFrame l).switchOff l = State.putFeeder { s with
      freeCells := s.freeCells + (s.feeder l).held
      attention := { s.attention with
        part := if (s.feeder l).state = .disabled then s.attention.part else s.partAfter 0x20#6 } } l
      { s.feeder l with state := .disabled, frame := none, defaultClass := c } := by
  have first : (s.withDefaultClass l c).abandonFrame l = { s with freeCells := s.freeCells + (s.feeder l).held }.putFeeder l
      { s.feeder l with frame := none, defaultClass := c } := by
    rw [abandonFrame_eq, withDefaultClass, feeder_updateFeeder_self, updateFeeder_eq]
    exact putFeeder_putFeeder { s with freeCells := s.freeCells + (s.feeder l).held } ..
  rw [first, switchOff, feeder_putFeeder_self]
  by_cases disabled : (s.feeder l).state = .disabled
  · rw [if_pos disabled, if_pos disabled, ← disabled]
  · rw [if_neg disabled, if_neg disabled, raisePart_eq, updateFeeder_eq, feeder_putFeeder_self, putFeeder_putFeeder]
    rfl

theorem State.linkRecords_congr {t : State} (h : t.records = s.records) (l : LinkNo) : t.linkRecords l = s.linkRecords l := by
  simp only [linkRecords, record_congr h]

/-- R31: DISABLE begins the retirements of the link that is off. -/
theorem State.disableLink_eq (s : State) (l : LinkNo) (c : ClassNo) : (s.withDefaultClass l c).disableLink l =
    (s.linkRecords l).foldl (fun u b => u.beginRetirement b .linkOff) (State.putFeeder { s with
      freeCells := s.freeCells + (s.feeder l).held
      attention := { s.attention with
        part := if (s.feeder l).state = .disabled then s.attention.part else s.partAfter 0x20#6 } } l
      { s.feeder l with state := .disabled, frame := none, defaultClass := c }) := by
  simp only [disableLink, switchOff_abandonFrame]
  exact congrArg (List.foldl _ _) (linkRecords_congr rfl l)

/-- R123, log 17: the records whose retirement a DISABLE begins. -/
theorem State.mem_linkRecords (s : State) (l : LinkNo) (b : BindingNo) : b ∈ s.linkRecords l ↔ (s.record b).key.link = l ∧
    (s.record b).state ≠ .free ∧ (s.record b).state ≠ .retired ∧ (s.record b).state ≠ .retiring := by
  simp only [linkRecords, List.mem_filter, mem_allBindings, true_and, Bool.and_eq_true, beq_iff_eq, bne_iff_ne,
    RecordState.active_iff, and_assoc]

/-- R31: "in ascending binding number". -/
theorem State.linkRecords_ascending (s : State) (l : LinkNo) : (s.linkRecords l).Pairwise (· < ·) :=
  (List.pairwise_lt_finRange 48).filter _

theorem State.beginRetirements_host (ends : List BindingNo) (cause : RetireCause) (s : State) :
    (ends.foldl (fun u b => u.beginRetirement b cause) s).host = s.host := by
  induction ends generalizing s with
  | nil => rfl
  | cons b ends ih => rw [List.foldl_cons, ih, beginRetirement_host]

theorem State.disabledByHost_host (s : State) (l : LinkNo) (c : ClassNo) : (s.disabledByHost l c).host = s.host := by
  rw [disabledByHost, arbitrate_grantIfReleased_host, disableLink_eq, beginRetirements_host]
  rfl

theorem State.feeder_congr {t u : State} (h : t.holdings.links = u.feeders) (l : LinkNo) : t.feeder l = u.feeder l :=
  congrArg (·[l]) h

/-- R31: the link is DISABLED after the whole event. -/
theorem State.disabledByHost_state (s : State) (l : LinkNo) (c : ClassNo) :
    ((s.disabledByHost l c).feeder l).state = .disabled := by
  have links : (s.disabledByHost l c).holdings.links =
      (s.putFeeder l { s.feeder l with state := .disabled, frame := none, defaultClass := c }).feeders := by
    rw [disabledByHost, holdings_arbitrate, holdings_grantIfReleased, disableLink_eq, holdings_beginRetirements]
    rfl
  rw [feeder_congr links, feeder_putFeeder_self]

/-! ### READ LINK (R44, R189) -/

theorem LinkState.code_lt (x : LinkState) : x.code < 4 := by cases x <;> decide

theorem streamCode_lt (x : Option OpenFrame) : (x.map fun g => g.stream.val).getD 0 < 256 := by
  cases x with
  | none => decide
  | some g => exact g.stream.isLt.trans (by decide)

theorem receivedCode_lt {x : Option OpenFrame} (h : ∀ g, x = some g → g.cellsReceived ≤ 97) :
    (x.map (·.cellsReceived)).getD 0 < 256 := by
  cases x with
  | none => decide
  | some g => exact (h g rfl).trans_lt (by decide)

/-- Table 11-H: the values of a link recover from the response that carries them. -/
theorem linkBytes_layout (l : LinkNo) {f : FeederLink} (fits : f.inRange)
    (received : ∀ x, f.frame = some x → x.cellsReceived ≤ 97) {d : Fin 32 → Nat}
    (read : ∀ i, d i = ((0x00#8 :: 0x0D#8 :: linkBytes l f).getD i.val 0#8).toNat) :
    d 0 = 0x00 ∧ d 1 = 0x0D ∧ d 2 = l.val ∧ d 3 % 4 = f.state.code ∧ d 3 / 4 % 4 = f.defaultClass.val ∧
      d 3 / 16 = flagNat f.frame.isSome ∧ d 4 = (f.frame.map fun x => x.stream.val).getD 0 ∧
      d 5 = (f.frame.map (·.cellsReceived)).getD 0 ∧
      d 6 * 16777216 + d 7 * 65536 + d 8 * 256 + d 9 = f.framesSeen ∧
      d 10 * 16777216 + d 11 * 65536 + d 12 * 256 + d 13 = f.badFrames ∧
      d 14 * 16777216 + d 15 * 65536 + d 16 * 256 + d 17 = f.overruns ∧
      d 18 * 16777216 + d 19 * 65536 + d 20 * 256 + d 21 = f.refused ∧
      d 22 * 16777216 + d 23 * 65536 + d 24 * 256 + d 25 = f.discarded ∧
      d 26 * 16777216 + d 27 * 65536 + d 28 * 256 + d 29 = f.lockLosses ∧ d 30 = 0 ∧ d 31 = 0 := by
  obtain ⟨c1, c2, c3, c4, c5, c6⟩ := fits
  have state := f.state.code_lt
  have frame := flagNat_lt f.frame.isSome
  have d3 : d 3 = f.state.code + f.defaultClass.val * 4 + flagNat f.frame.isSome * 16 :=
    (read 3).trans (toNat_byteOf (by omega))
  simp only [read] at d3 ⊢
  refine ⟨rfl, rfl, toNat_byteOf (by omega), ?_, ?_, ?_, toNat_byteOf (streamCode_lt _),
    toNat_byteOf (receivedCode_lt received), counter_of_bytes32 c1, counter_of_bytes32 c2, counter_of_bytes32 c3, counter_of_bytes32 c4, counter_of_bytes32 c5,
    counter_of_bytes32 c6, rfl, rfl⟩
  · rw [d3]; omega
  · rw [d3]; omega
  · rw [d3]; omega

/-- R44: what READ LINK leaves. -/
def State.readingLink (s : State) (l : LinkNo) (clear : Bool) : State :=
  if clear then (s.post .ok (linkBytes l (s.feeder l))).updateFeeder l FeederLink.clearCounters
  else s.post .ok (linkBytes l (s.feeder l))

/-- R189: the operands of READ LINK read. -/
theorem execReadLink_eq {clear : Bool} (h : s.inHand 0x0D#8) (h1 : s.op 1 = l.val) (h2 : s.op 2 = flagOp clear) :
    exec .readLink s = .next (s.readingLink l clear) := by
  show execReadLink s = _
  rw [execReadLink, commandEvent_inHand h, State.operand, State.operand, below_of_toNat h1, flagOperand_of_toNat h2]
  rfl

theorem State.readingLink_host (s : State) (l : LinkNo) (clear : Bool) :
    (s.readingLink l clear).host = (s.post .ok (linkBytes l (s.feeder l))).host := by
  cases clear <;> rfl

/-- R182: the bytes that READ LINK's response holds. -/
theorem State.readingLink_response (h : s.inHand 0x0D#8) (l : LinkNo) (clear : Bool) (i : Fin 32) :
    ((s.readingLink l clear).host.response[i]).toNat =
      ((0x00#8 :: 0x0D#8 :: linkBytes l (s.feeder l)).getD i.val 0#8).toNat := by
  have code : s.operand 0 = 0x0D#8 := h.2.2
  rw [readingLink_host, post, code]
  simp [responseBlock, Result.code]

/-- Settles O49: SET LINK writes the default class and then takes the link through its change; READ LINK posts the link as it
stands. -/
theorem linkCommands : Obligations.LinkCommands := by
  intro s l h1 f
  refine ⟨fun c h h3 => ⟨fun enable disabled => ?_, fun enable enabled => ?_, fun disable => ?_⟩,
    fun clear h h2 fits received => ?_⟩
  · have run := execSetLink_enable h h1 enable h3
    rw [State.enableLink_disabled disabled, State.feeder_putFeeder_self] at run
    exact State.posted run rfl (by simp)
  · have run := execSetLink_enable h h1 enable h3
    rw [State.enableLink_enabled enabled, State.feeder_putFeeder_self] at run
    have code : byteOf f.state.code = if f.state = .up then 0x02#8 else 0x01#8 := by
      cases state : f.state with
      | disabled => exact absurd state enabled
      | seeking | up => rfl
    rw [← code]
    exact State.posted run rfl (by simp)
  · have run := execSetLink_disable h h1 disable h3
    rw [s.disabledByHost_state l c] at run
    refine ⟨_, s.linkRecords l, run, s.linkRecords_ascending l, s.mem_linkRecords l,
      State.answers_post (s.disabledByHost_host l c) .ok (by simp), ?_⟩
    rw [State.post_frame (s.disabledByHost_host l c), State.disabledByHost, State.disableLink_eq]
    have held : (s.feeder l).held = (match f.frame with | some x => x.cells.length | none => 0) := by
      cases frame : f.frame with
      | none => exact FeederLink.held_none frame
      | some x => exact FeederLink.held_some frame
    rw [held] <;> rfl
  · obtain ⟨d0, d1, d2, state, cls, frame, stream, cells, rest⟩ :=
      linkBytes_layout l fits received (State.readingLink_response h l clear)
    refine ⟨_, execReadLink_eq h h1 h2, d0, d1, d2, state.trans ?_, cls, frame, stream.trans ?_, cells.trans ?_, ?_⟩
    · cases f.state <;> rfl
    · cases f.frame <;> rfl
    · cases f.frame <;> rfl
    · obtain ⟨r1, r2, r3, r4, r5, r6, d30, d31⟩ := rest
      refine ⟨r1, r2, r3, r4, r5, r6, d30, d31, ?_, ?_⟩
      · rw [State.readingLink_host]
        rfl
      · cases clear with
        | false => exact State.post_frame rfl .ok _
        | true => rfl

end

end Sys2Proof.Machine

namespace Sys2Proof.Machine

set_option Elab.async false

/-! ### What a close does to a record's own fields (R19, R38, R50, R52) -/

/-- R38: the model's gap is the gap of the statements. -/
theorem BindingRecord.isGap_eq (r : BindingRecord) (c : FrameClose) : r.isGap c = gapAfter r.lastFrame c.frameNumber := by
  unfold isGap gapAfter
  cases r.lastFrame <;> rfl

theorem BindingRecord.noteFrame_eq (r : BindingRecord) (c : FrameClose) : r.noteFrame c = { r with
    gaps := if gapAfter r.lastFrame c.frameNumber then satSucc r.gaps else r.gaps, lastFrame := some c.frameNumber } := by
  rw [noteFrame, isGap_eq]

/-- Table 3-B: a good close leaves its geometry as the trial geometry. -/
theorem BindingRecord.buildRun_eq (r : BindingRecord) (c : FrameClose) :
    r.buildRun c = { r with trial := some c.geometry, run := r.runAfter c } := by
  unfold buildRun runAfter
  rw [isGap_eq]
  by_cases same : r.trial = some c.geometry
  · cases gap : gapAfter r.lastFrame c.frameNumber <;> simp [same, Config.maxRun]
  · simp [same]

theorem BindingRecord.countBad_eq (r : BindingRecord) (c : FrameClose) :
    r.countBad c = { r with bad := if c.good then r.bad else satSucc r.bad } := by
  unfold countBad
  split <;> rfl

/-! ### The handling of a close by the state of its record (R37) -/

section
variable {s : State} {c : FrameClose} {b : BindingNo}

/-- R43: the link of a close counted and without its frame. -/
def State.counted (s : State) (c : FrameClose) : State :=
  s.updateFeeder c.key.link fun l => { l.countClose c with frame := none }

/-- R42, R43: the same with the frame's cells back, which is where a close is handled in every state but LIVE. -/
def State.settled (s : State) (c : FrameClose) : State :=
  { s with freeCells := s.freeCells + c.cells.length }.putFeeder c.key.link ((s.feeder c.key.link).afterClose c)

@[simp] theorem State.counted_record (s : State) (c : FrameClose) (b : BindingNo) : (s.counted c).record b = s.record b := rfl

@[simp] theorem State.counted_resolveKey (s : State) (c : FrameClose) (k : Key) :
    (s.counted c).resolveKey k = s.resolveKey k := rfl

theorem State.settled_eq (s : State) (c : FrameClose) : s.settled c = (s.counted c).returnCells c.cells.length := rfl

@[simp] theorem State.settled_classes (s : State) (c : FrameClose) : (s.settled c).classes = s.classes := rfl

@[simp] theorem State.settled_feeder (s : State) (c : FrameClose) :
    (s.settled c).feeder c.key.link = (s.feeder c.key.link).afterClose c := State.feeder_putFeeder_self ..

theorem State.takeClose_eq (s : State) (c : FrameClose) : s.takeClose c = ((s.counted c).handleClose c).grantIfReleased s := rfl

theorem State.takeClose_unknown (unknown : s.resolveKey c.key = none) :
    s.takeClose c = ((s.settled c).closeUnknown c).grantIfReleased s := by
  simp only [takeClose_eq, handleClose, counted_resolveKey, unknown, settled_eq]

theorem State.takeClose_candidate (found : s.resolveKey c.key = some b) (state : (s.record b).state = .candidate) :
    s.takeClose c = ((s.settled c).closeCandidate b c).grantIfReleased s := by
  simp only [takeClose_eq, handleClose, counted_resolveKey, found, counted_record, state, settled_eq]

theorem State.takeClose_tagWait (found : s.resolveKey c.key = some b) (state : (s.record b).state = .tagWait) :
    s.takeClose c = ((s.settled c).closeTagWait b c).grantIfReleased s := by
  simp only [takeClose_eq, handleClose, counted_resolveKey, found, counted_record, state, settled_eq]

theorem State.takeClose_announcing (found : s.resolveKey c.key = some b) (state : (s.record b).state = .announcing) :
    s.takeClose c = ((s.settled c).closeAnnouncing b c).grantIfReleased s := by
  simp only [takeClose_eq, handleClose, counted_resolveKey, found, counted_record, state, settled_eq]

theorem State.takeClose_retiring (found : s.resolveKey c.key = some b) (state : (s.record b).state = .retiring) :
    s.takeClose c = ((s.settled c).closeRetiring b c).grantIfReleased s := by
  simp only [takeClose_eq, handleClose, counted_resolveKey, found, counted_record, state, settled_eq]

/-- R76: a close that leaves the Tag Manager alone releases nothing and grants nothing. -/
theorem State.grantIfReleased_of_tags {u : State} (tags : u.tags = s.tags) : u.grantIfReleased s = u :=
  grantIfReleased_of_le (by rw [tags])

/-- A close that returns its cells, changes its link to `f` and record `b` to `r`, and nothing else. -/
theorem State.closeKeeps_of_eq {t : State} {f : FeederLink} {r : BindingRecord}
    (h : t = ({ s with freeCells := s.freeCells + c.cells.length }.putFeeder c.key.link f).putRecord b r) :
    s.closeKeeps t c b ∧ t.record b = r ∧ t.feeder c.key.link = f := by
  subst h
  exact ⟨⟨fun _ other => State.record_putRecord_ne _ _ other, fun _ other => State.feeder_putFeeder_ne _ _ other, rfl, rfl⟩,
    State.record_putRecord_self .., State.feeder_putFeeder_self ..⟩

/-! ### CANDIDATE and TAG_WAIT (R50 to R52, R57) -/

/-- R17: a renewed lease and a further change of the record are one write. -/
theorem State.renewLease_updateRecord (s : State) (b : BindingNo) (f : BindingRecord → BindingRecord) :
    (s.renewLease b).updateRecord b f =
      s.putRecord b (f { s.record b with lease := (s.record b).lease.map fun _ => (s.classOf b).leaseLength }) := by
  rw [renewLease_eq, updateRecord_eq, record_putRecord_self, putRecord_putRecord]

theorem State.closeCandidate_overran (good : c.good = true) (overrun : c.overrun = true) :
    s.closeCandidate b c = s.putRecord b ((s.record b).seen c (s.classOf b).leaseLength) := by
  have overran : c.overran = true := by simp [FrameClose.overran, good, overrun]
  simp only [closeCandidate, overran, if_true, renewLease_updateRecord, BindingRecord.noteFrame_eq]
  rfl

theorem State.closeCandidate_bad (bad : c.good = false) : s.closeCandidate b c = s.putRecord b
    { (s.record b).seen c (s.classOf b).leaseLength with run := 0, bad := satSucc (s.record b).bad } := by
  have overran : c.overran = false := by simp [FrameClose.overran, bad]
  simp only [closeCandidate, overran, bad, Bool.false_eq_true, if_false, renewLease_updateRecord, BindingRecord.noteFrame_eq,
    BindingRecord.countBad_eq]
  rfl

/-- R13: the run of a record just written, against the admission count of its class. -/
theorem State.runMeets_putRecord (s : State) (b : BindingNo) (r : BindingRecord) :
    (s.putRecord b r).runMeets b = decide (s.classes[r.cls].admissionCount ≤ r.run) := by
  simp only [runMeets, classOf, record_putRecord_self]
  rfl

/-- R50, R51, R53: a good close builds the run, and completes the admission when the run reaches the admission count. -/
theorem State.closeCandidate_good {r : BindingRecord} (good : c.good = true) (overrun : c.overrun = false)
    (built : r = { (s.record b).seen c (s.classOf b).leaseLength with
      trial := some c.geometry, run := (s.record b).runAfter c }) :
    s.closeCandidate b c = if (s.classOf b).admissionCount ≤ (s.record b).runAfter c then (s.putRecord b r).completeAdmission b
      else s.putRecord b r := by
  have overran : c.overran = false := by simp [FrameClose.overran, overrun]
  have write : (s.renewLease b).updateRecord b (fun r => (r.buildRun c).noteFrame c) = s.putRecord b r := by
    rw [renewLease_updateRecord, BindingRecord.buildRun_eq, BindingRecord.noteFrame_eq, built]
    rfl
  simp only [closeCandidate, overran, good, Bool.false_eq_true, if_false, if_true, write, runMeets_putRecord, decide_eq_true_eq]
  subst built
  rfl

/-! ### Creation and completion of admission (R47 to R49, R53 to R56) -/

/-- R48: the creation of a learnt record, with its lease running. -/
theorem State.createLearnt_eq {r : BindingRecord} {cls : ClassNo} (cls_eq : cls = (s.feeder c.key.link).defaultClass)
    (made : r = { BindingRecord.learntFrom c cls with lease := some s.classes[cls].leaseLength }) :
    s.createLearnt b c = if s.classes[cls].admissionCount ≤ 1 then (s.putRecord b r).completeAdmission b
      else s.putRecord b r := by
  have write : (s.updateRecord b fun _ => BindingRecord.learntFrom c cls).startLease b = s.putRecord b r := by
    rw [startLease_eq, updateRecord_eq, putRecord_putRecord, made]
    simp only [classOf, record_putRecord_self]
    rfl
  simp only [createLearnt, ← cls_eq, write, runMeets_putRecord, decide_eq_true_eq]
  subst made
  rfl

/-- R47, R48: a good close with storage of an unknown key finds a FREE record. -/
theorem State.closeUnknown_creates (good : c.good = true) (overrun : c.overrun = false) (free : s.lowestFree = some b) :
    s.closeUnknown c = s.createLearnt b c := by
  simp only [closeUnknown, good, overrun, free, Bool.not_false, Bool.and_self, if_true]

/-- R49: no record is FREE. -/
theorem State.closeUnknown_refused (good : c.good = true) (overrun : c.overrun = false) (free : s.lowestFree = none) :
    s.closeUnknown c = { s with attention.part := s.partAfter 0x01#6 }.putFeeder c.key.link
      { s.feeder c.key.link with refused := satSucc (s.feeder c.key.link).refused } := by
  simp only [closeUnknown, good, overrun, free, Bool.not_false, Bool.and_self, if_true, raisePart_eq]
  rfl

theorem State.closeUnknown_bad (h : c.good = false ∨ c.overrun = true) : s.closeUnknown c = s := by
  have not : (c.good && !c.overrun) = false := by rcases h with h | h <;> simp [h]
  simp only [closeUnknown, not, Bool.false_eq_true, if_false]

/-- R53, R54: what the completion of an admission can do: enter ANNOUNCING with the fixed tag, enter TAG_WAIT, or enter
ANNOUNCING with the ready head of the free list while nobody waits. -/
theorem State.completeAdmission_cases (s : State) (b : BindingNo) (r : BindingRecord) :
    let r' := { r with geometry := r.trial, trial := none }
    let t := (s.putRecord b r).completeAdmission b
    (∃ x, r.tag = some x ∧ t = { s with notice.owed := s.owedWith b }.putRecord b (s.announcedAs r' x)) ∨
    (r.tag = none ∧
      (∀ x rest, s.tags.waitQueue = [] → s.tags.freeList = x :: rest → s.tagReady x = false) ∧
      t = { s with tags := { s.tags with waitQueue := s.tags.waitQueue ++ [b] } }.putRecord b
        { r' with state := .tagWait, lease := some s.classes[r.cls].leaseLength }) ∨
    ∃ x rest, r.tag = none ∧ s.tags.waitQueue = [] ∧ s.tags.freeList = x :: rest ∧ s.tagReady x = true ∧
      t = { s with
        notice.owed := s.owedWith b
        tags := { s.tags with table := s.tags.table.set x (.held b), freeList := rest } }.putRecord b
          (s.announcedAs r' x) := by
  intro r' t
  have self : (s.putRecord b r).record b = r := s.record_putRecord_self b r
  obtain tag | ⟨x, tag⟩ := r.tag.eq_none_or_eq_some
  · by_cases takes : ∃ x rest, s.tags.waitQueue = [] ∧ s.tags.freeList = x :: rest ∧ s.tagReady x = true
    · obtain ⟨x, rest, wait, free, ready⟩ := takes
      refine .inr (.inr ⟨x, rest, tag, wait, free, ready,
        (completeAdmission_takes (s := s.putRecord b r) (by rw [self, tag]) wait free ready).trans ?_⟩)
      rw [self]
      exact putRecord_putRecord { s with
        notice.owed := s.owedWith b
        tags := { s.tags with table := s.tags.table.set x (.held b), freeList := rest } } ..
    · have head : ∀ x rest, s.tags.waitQueue = [] → s.tags.freeList = x :: rest → s.tagReady x = false :=
        fun x rest wait free => Bool.eq_false_iff.mpr fun ready => takes ⟨x, rest, wait, free, ready⟩
      refine .inr (.inl ⟨tag, head, (completeAdmission_waits (s := s.putRecord b r) (by rw [self, tag]) head).trans ?_⟩)
      simp only [classOf, self]
      exact putRecord_putRecord { s with tags := { s.tags with waitQueue := s.tags.waitQueue ++ [b] } } ..
  · refine .inl ⟨x, tag, (completeAdmission_fixed (s := s.putRecord b r) (by rw [self, tag])).trans ?_⟩
    rw [self]
    exact putRecord_putRecord { s with notice.owed := s.owedWith b } ..

/-- R53 to R56: the completion of an admission admits as the statements say, whatever lease ran before it. -/
theorem State.completeAdmission_admits (s : State) (b : BindingNo) (r : BindingRecord) (lease : Option Nat) :
    s.admits ((s.putRecord b { r with lease := lease }).completeAdmission b) b r := by
  unfold admits
  rcases s.completeAdmission_cases b { r with lease := lease } with
    ⟨x, tag, h⟩ | ⟨tag, head, h⟩ | ⟨x, rest, tag, wait, free, ready, h⟩
  · rw [h]
    split
    next y _ _ tag' =>
      obtain rfl := Option.some.inj (tag.symm.trans tag')
      exact ⟨record_putRecord_self .., rfl, rfl⟩
    next tag' _ _ => exact absurd (tag.symm.trans tag') nofun
    next tag' _ => exact absurd (tag.symm.trans tag') nofun
  · rw [h]
    split
    next tag' => exact absurd (tag.symm.trans tag') nofun
    next wait free =>
      rw [if_neg (by simp [head _ _ wait free])]
      exact ⟨record_putRecord_self .., rfl, rfl⟩
    next => exact ⟨record_putRecord_self .., rfl, rfl⟩
  · rw [h]
    split
    next tag' => exact absurd (tag.symm.trans tag') nofun
    next y rest' wait' free' =>
      obtain ⟨rfl, rfl⟩ := List.cons.inj (free.symm.trans free')
      rw [if_pos ready]
      exact ⟨record_putRecord_self .., rfl, rfl⟩
    next no => exact (no x rest wait free).elim

/-- R53 to R56: it changes record `b`, the tags and the owed list alone, and puts no tag on the free list. -/
theorem State.completeAdmission_frame (s : State) (b : BindingNo) (r : BindingRecord) : ∃ r' m owed,
    (s.putRecord b r).completeAdmission b = { s with tags := m, notice.owed := owed }.putRecord b r' ∧
      m.freeList.length ≤ s.tags.freeList.length := by
  rcases s.completeAdmission_cases b r with ⟨_, _, h⟩ | ⟨_, _, h⟩ | ⟨_, _, _, _, free, _, h⟩
  · exact ⟨_, _, _, h, le_rfl⟩
  · exact ⟨_, _, _, h, le_rfl⟩
  · exact ⟨_, _, _, h, by simp [free]⟩

/-- R48: a close that creates a learnt record. -/
theorem State.takeClose_creates {r : BindingRecord} {cls : ClassNo} (unknown : s.resolveKey c.key = none)
    (good : c.good = true) (overrun : c.overrun = false) (free : s.lowestFree = some b)
    (cls_eq : cls = (s.feeder c.key.link).defaultClass)
    (made : r = { BindingRecord.learntFrom c cls with lease := some s.classes[cls].leaseLength }) :
    s.takeClose c = (if s.classes[cls].admissionCount ≤ 1 then ((s.settled c).putRecord b r).completeAdmission b
      else (s.settled c).putRecord b r).grantIfReleased s := by
  have cls_eq' : cls = ((s.settled c).feeder c.key.link).defaultClass := by rw [cls_eq, settled_feeder]; rfl
  rw [takeClose_unknown unknown, closeUnknown_creates (s := s.settled c) good overrun free, createLearnt_eq cls_eq' made,
    settled_classes]

end

/-! ### The statements on admission -/

/-- Settles O12: each case is one equation of `State.closeUnknown`, and none grants. -/
theorem closeOfUnknownKey : Obligations.CloseOfUnknownKey := by
  intro s c unknown
  have run := State.takeClose_unknown unknown
  refine ⟨fun h => ?_, fun good overrun free => ?_, fun b good overrun free count => ?_⟩
  · rw [run, State.closeUnknown_bad h]
    exact State.grantIfReleased_of_tags rfl
  · rw [run, State.closeUnknown_refused (s := s.settled c) good overrun free, State.settled_feeder]
    refine (State.grantIfReleased_of_tags rfl).trans ?_
    exact State.putFeeder_putFeeder { s with
      freeCells := s.freeCells + c.cells.length, attention.part := s.partAfter 0x01#6 } ..
  · rw [State.takeClose_creates unknown good overrun free rfl rfl, if_neg (Nat.not_le.mpr count)]
    exact State.grantIfReleased_of_tags rfl

/-- Settles O13: each kind of close is one write of the record, and grants nothing. -/
theorem closeOfCandidate : Obligations.CloseOfCandidate := by
  intro s c b found state
  have run := State.takeClose_candidate found state
  have put {r : BindingRecord} (handled : (s.settled c).closeCandidate b c = (s.settled c).putRecord b r) :
      (s.takeClose c).record b = r ∧ s.closeKeeps (s.takeClose c) c b ∧
        (s.takeClose c).feeder c.key.link = (s.feeder c.key.link).afterClose c := by
    rw [handled] at run
    obtain ⟨keeps, record, link⟩ := State.closeKeeps_of_eq (run.trans (State.grantIfReleased_of_tags rfl))
    exact ⟨record, keeps, link⟩
  have overran (good overrun) := put (State.closeCandidate_overran good overrun)
  have bad (bad) := put (State.closeCandidate_bad bad)
  have short (good overrun) (low : (s.record b).runAfter c < (s.classOf b).admissionCount) :=
    put ((State.closeCandidate_good good overrun rfl).trans (if_neg (Nat.not_le.mpr low)))
  refine ⟨fun h1 h2 => (overran h1 h2).1, fun h => (bad h).1, fun h1 h2 h3 => (short h1 h2 h3).1, fun h => ?_⟩
  cases good : c.good with
  | false => exact (bad good).2
  | true =>
    cases overrun : c.overrun with
    | true => exact (overran good overrun).2
    | false => exact (short good overrun (by simpa [good, overrun] using h)).2

/-- Settles O14: both origins write the record whose admission is complete, but for its lease, and complete it. -/
theorem admissionCompletes : Obligations.AdmissionCompletes := by
  intro s c b r good overrun origin t
  have run : ∃ lease, t = (((s.settled c).putRecord b { r with lease := lease }).completeAdmission b).grantIfReleased s := by
    rcases origin with ⟨found, state, reached, built⟩ | ⟨unknown, free, count, made⟩
    · have closed : (s.settled c).closeCandidate b c = ((s.settled c).putRecord b r).completeAdmission b :=
        (State.closeCandidate_good (s := s.settled c) good overrun built).trans (if_pos reached)
      exact ⟨r.lease, (State.takeClose_candidate found state).trans (by rw [closed])⟩
    · have created := State.takeClose_creates unknown good overrun free rfl
        (r := { r with lease := some s.classes[(s.feeder c.key.link).defaultClass].leaseLength }) (by rw [made]; rfl)
      rw [if_pos count] at created
      exact ⟨_, created⟩
  obtain ⟨lease, run⟩ := run
  obtain ⟨r', m, owed, put, freeList⟩ := (s.settled c).completeAdmission_frame b { r with lease := lease }
  have admits := (s.settled c).completeAdmission_admits b r lease
  have ends : t = ((s.settled c).putRecord b { r with lease := lease }).completeAdmission b :=
    run.trans (State.grantIfReleased_of_le (by rw [put]; exact freeList))
  refine ⟨ends ▸ admits, ?_⟩
  rw [ends, put]
  exact ⟨fun _ other => State.record_putRecord_ne _ _ other, fun _ other => State.feeder_putFeeder_ne _ _ other, rfl,
    State.feeder_putFeeder_self .., rfl⟩

/-- Settles O15: one write of the record, and in RETIRING one more count of the link. -/
theorem closeWithheldOrDiscarded : Obligations.CloseWithheldOrDiscarded := by
  intro s c b found
  refine ⟨fun state => ?_, fun state => ?_, fun state => ?_⟩
  · refine State.closeKeeps_of_eq ((State.takeClose_tagWait found state).trans ?_)
    simp only [State.closeTagWait, State.renewLease_updateRecord, BindingRecord.countBad_eq, BindingRecord.noteFrame_eq]
    exact State.grantIfReleased_of_tags rfl
  · refine State.closeKeeps_of_eq ((State.takeClose_announcing found state).trans ?_)
    simp only [State.closeAnnouncing, State.updateRecord_eq, BindingRecord.countBad_eq, BindingRecord.noteFrame_eq]
    exact State.grantIfReleased_of_tags rfl
  · refine State.closeKeeps_of_eq ((State.takeClose_retiring found state).trans ?_)
    have discarded : (s.settled c).updateFeeder c.key.link (fun l => { l with discarded := satSucc l.discarded }) =
        { s with freeCells := s.freeCells + c.cells.length }.putFeeder c.key.link
          { (s.feeder c.key.link).afterClose c with
            discarded := satSucc ((s.feeder c.key.link).afterClose c).discarded } := by
      rw [State.updateFeeder_eq, State.settled_feeder, State.settled, State.putFeeder_putFeeder]
    simp only [State.closeRetiring, discarded]
    rw [State.grantIfReleased_of_tags (by split <;> rfl)]
    split
    · rfl
    · exact (State.putRecord_record _ b).symm

end Sys2Proof.Machine

namespace Sys2Proof.Machine

set_option Elab.async false

/-! ### PROVISION (R58 to R60, R75, R186) -/

section
variable {s : State} {l : LinkNo} {n : StreamNo} {c : ClassNo} {pinned : Bool} {fixed : Option Tag}

theorem fixedTagOperand_of_toNat {x : Byte} (h : x.toNat = (match fixed with | some t => t.val + 1 | none => 0)) :
    fixedTagOperand x = some fixed := by
  cases fixed with
  | none => rw [BitVec.eq_of_toNat_eq (y := 0x00#8) h]; rfl
  | some t =>
    have read : tagOperand x = some t := tagOperand_of_toNat h
    have nonzero : x ≠ 0x00#8 := by rintro rfl; cases read
    rw [fixedTagOperand, if_neg nonzero, read]
    rfl

/-- R186: the operands of PROVISION read. -/
theorem execProvision_eq (h : s.inHand 0x05#8) (h1 : s.op 1 = l.val) (h2 : s.op 2 = n.val) (h3 : s.op 3 = c.val)
    (h4 : s.op 4 = flagOp pinned) (h5 : s.op 5 = (match fixed with | some x => x.val + 1 | none => 0)) :
    exec .provision s = .next (s.provisionWith ⟨l, n⟩ c pinned fixed) := by
  show execProvision s = _
  rw [execProvision, commandEvent_inHand h, State.operand, State.operand, State.operand, State.operand, State.operand,
    below_of_toNat h1, below_of_toNat h2, below_of_toNat h3, flagOperand_of_toNat h4, fixedTagOperand_of_toNat h5]

/-- R9: the look-up of a key that an active record holds finds a record. -/
theorem State.resolveKey_isSome {k : Key} {b : BindingNo} (key : (s.record b).key = k)
    (active : (s.record b).state.active = true) : ∃ x, s.resolveKey k = some x := by
  cases found : s.resolveKey k with
  | none => exact absurd key (resolveKey_none found b active)
  | some x => exact ⟨x, rfl⟩

theorem State.lowestFree_eq_none (h : ∀ b, (s.record b).state ≠ .free) : s.lowestFree = none :=
  List.find?_eq_none.mpr fun b _ => by simpa using h b

/-- R10: the lowest-numbered FREE record. -/
theorem State.lowestFree_eq_some {b : BindingNo} (free : (s.record b).state = .free)
    (lowest : ∀ x, x < b → (s.record x).state ≠ .free) : s.lowestFree = some b :=
  allBindings_find?.mpr ⟨by simp [free], fun x lt => by simpa using lowest x lt⟩

variable {k : Key} {b : BindingNo}

theorem State.provisionWith_keyExists {x : BindingNo} (found : s.resolveKey k = some x) :
    s.provisionWith k c pinned fixed = s.refuse .keyExists := by
  rw [provisionWith, found]

theorem State.provisionWith_tableFull (unknown : s.resolveKey k = none) (full : s.lowestFree = none) :
    s.provisionWith k c pinned fixed = s.refuse .tableFull := by
  rw [provisionWith, unknown, full]

theorem State.provisionWith_refused {r : Result} (unknown : s.resolveKey k = none) (free : s.lowestFree = some b)
    (refusal : s.takeOutRefusal fixed = some r) : s.provisionWith k c pinned fixed = s.refuse r := by
  rw [provisionWith, unknown, free, refusal]

theorem State.provisionWith_creates (unknown : s.resolveKey k = none) (free : s.lowestFree = some b)
    (takes : s.takeOutRefusal fixed = none) :
    s.provisionWith k c pinned fixed = (s.createProvisioned b k c pinned fixed).post .ok [byteOf b.val] := by
  rw [provisionWith, unknown, free, takes]

/-- R58: the record of a PROVISION without a fixed tag. -/
theorem State.createProvisioned_none (s : State) (b : BindingNo) (k : Key) (c : ClassNo) (pinned : Bool) :
    s.createProvisioned b k c pinned none = s.putRecord b (.provisioned k c pinned s.classes[c].leaseLength) :=
  s.startLease_provisioned b k c pinned

/-- R59, R75: with a fixed tag, which leaves the free list. -/
theorem State.createProvisioned_some (s : State) (b : BindingNo) (k : Key) (c : ClassNo) (pinned : Bool) (x : Tag) :
    s.createProvisioned b k c pinned (some x) = { s with tags := { s.tags with
      table := s.tags.table.set x (.held b), freeList := s.tags.freeList.erase x } }.putRecord b
        { BindingRecord.provisioned k c pinned s.classes[c].leaseLength with tag := some x } := by
  simp only [createProvisioned, startLease_provisioned, holdTag_eq, record_putRecord_self]
  exact putRecord_putRecord { s with tags := { s.tags with
    table := s.tags.table.set x (.held b), freeList := s.tags.freeList.erase x } } ..

/-- R75: a tag that is HELD or STRANDED is not free. -/
theorem State.takeOutRefusal_not_free {x : Tag} (h : ∀ age, s.tagEntry x ≠ .free age) :
    s.takeOutRefusal (some x) = some .tagNotFree := by
  simp only [takeOutRefusal]
  split
  next age entry => exact absurd entry (h age)
  next => rfl
  next => rfl

theorem State.takeOutRefusal_not_ready {x : Tag} {age : Nat} (entry : s.tagEntry x = .free age)
    (notReady : s.tagReady x = false) : s.takeOutRefusal (some x) = some .tagNotReady := by
  simp only [takeOutRefusal, entry, notReady, Bool.false_eq_true, if_false]

theorem State.takeOutRefusal_ready {x : Tag} (ready : s.tagReady x = true) : s.takeOutRefusal (some x) = none := by
  obtain ⟨⟨age, entry, _⟩, _⟩ := (s.tagReady_iff x).mp ready
  simp only [takeOutRefusal, entry, ready, if_true]

end

/-- Settles O45: the look-ups find what the statement's hypotheses name, and each outcome is one equation of
`State.provisionWith`. -/
theorem provisionCreates : Obligations.ProvisionCreates := by
  intro s l n c pinned fixed h h1 h2 h3 h4 h5 holds
  have run := execProvision_eq h h1 h2 h3 h4 h5
  have unknown (noHolder : ∀ b, ¬holds b) : s.resolveKey ⟨l, n⟩ = none := State.resolveKey_of_inactive fun b key =>
    Bool.eq_false_iff.mpr fun active => noHolder b ⟨key, (RecordState.active_iff _).mp active⟩
  refine ⟨fun ⟨b, key, active⟩ => ?_, fun noHolder full => ?_, fun b noHolder free lowest => ?_⟩
  · obtain ⟨x, found⟩ := State.resolveKey_isSome key ((RecordState.active_iff _).mpr active)
    exact State.refusedWith_of (run.trans (congrArg _ (State.provisionWith_keyExists found)))
  · exact State.refusedWith_of (run.trans (congrArg _
      (State.provisionWith_tableFull (unknown noHolder) (State.lowestFree_eq_none full))))
  · have free' := State.lowestFree_eq_some free lowest
    have refused {r : Result} (refusal : s.takeOutRefusal fixed = some r) : s.refusedWith .provision r.code :=
      State.refusedWith_of (run.trans (congrArg _ (State.provisionWith_refused (unknown noHolder) free' refusal)))
    have created {u : State} (takes : s.takeOutRefusal fixed = none)
        (creates : s.createProvisioned b ⟨l, n⟩ c pinned fixed = u) (host : u.host = s.host) :
        ∃ t, exec .provision s = .next t ∧ s.answers t 0x00#8 [byteOf b.val] ∧ { t with host := s.host } = u := by
      rw [State.provisionWith_creates (unknown noHolder) free' takes, creates] at run
      exact State.posted run host (Nat.le_of_ble_eq_true rfl)
    refine ⟨fun eq => ?_, fun x eq => ?_⟩
    · subst eq
      exact created rfl (s.createProvisioned_none ..) rfl
    · subst eq
      exact ⟨fun entry => refused (State.takeOutRefusal_not_free entry),
        fun age entry notReady => refused (State.takeOutRefusal_not_ready entry notReady),
        fun ready => created (State.takeOutRefusal_ready ready) (s.createProvisioned_some ..) rfl⟩

end Sys2Proof.Machine

namespace Sys2Proof.Machine

set_option Elab.async false

/-! ### One grant of a grant event (R73) -/

/-- The part in `t` with everything that grants change as `s` has it. -/
def State.undoingGrants (t s : State) : State :=
  { t with
    records := s.records, notice := s.notice
    tags := { t.tags with table := s.tags.table, waitQueue := s.tags.waitQueue, freeList := s.tags.freeList } }

/-- What grants leave unchanged is unchanged after more of them. -/
theorem State.undoingGrants_trans {s u t : State} (first : u.undoingGrants s = s) (later : t.undoingGrants u = u) :
    t.undoingGrants s = s :=
  (congrArg (·.undoingGrants s) later).trans first

section
variable {s : State} {b : BindingNo} {x : Tag}

/-- R73: a grant takes the head of the wait queue and the head of the free list. -/
theorem State.grantOne_tags {bs : List BindingNo} {xs : List Tag} (queue : s.tags.waitQueue = b :: bs)
    (list : s.tags.freeList = x :: xs) : (s.grantOne b x).tags =
      { s.tags with table := s.tags.table.set x (.held b), freeList := xs, waitQueue := bs } := by
  rw [grantOne_eq, putRecord_tags, queue, list, List.erase_cons_head, List.erase_cons_head]

/-- R55: the record granted to is owed its BIND. -/
theorem State.grantOne_notice (s : State) (b : BindingNo) (x : Tag) :
    (s.grantOne b x).notice = { s.notice with owed := s.owedWith b } := by
  rw [grantOne_eq, putRecord_notice]

theorem State.record_grantOne_self (s : State) (b : BindingNo) (x : Tag) :
    (s.grantOne b x).record b = s.announcedAs (s.record b) x := by
  rw [grantOne_eq, record_putRecord_self]

theorem State.record_grantOne_ne (s : State) {b c : BindingNo} (x : Tag) (h : c ≠ b) :
    (s.grantOne b x).record c = s.record c := by
  rw [grantOne_eq, record_putRecord_ne _ _ h]
  rfl

theorem State.tagEntry_grantOne_self (s : State) (b : BindingNo) (x : Tag) :
    (s.grantOne b x).tagEntry x = .held b := by
  simp [grantOne_eq, tagEntry]

theorem State.tagEntry_grantOne_ne (s : State) (b : BindingNo) {x y : Tag} (h : y ≠ x) :
    (s.grantOne b x).tagEntry y = s.tagEntry y := by
  simp [grantOne_eq, tagEntry, Fin.val_ne_of_ne h.symm]

theorem State.grantOne_frame (s : State) (b : BindingNo) (x : Tag) : (s.grantOne b x).undoingGrants s = s := by
  rw [grantOne_eq]
  rfl

/-- R68: a grant makes no tag ready. The tag it granted is HELD, and no hold-off expiry stood when it granted. -/
theorem State.tagReady_of_grantOne {y : Tag} (ready : s.tagReady x = true)
    (h : (s.grantOne b x).tagReady y = true) : s.tagReady y = true := by
  obtain ⟨-, due⟩ := (s.tagReady_iff x).mp ready
  obtain ⟨⟨age, entry, le⟩, -⟩ := (tagReady_iff _ y).mp h
  have other : y ≠ x := by
    rintro rfl
    rw [tagEntry_grantOne_self] at entry
    cases entry
  rw [tagEntry_grantOne_ne s b other] at entry
  rw [grantOne_eq] at le
  exact (s.tagReady_iff y).mpr ⟨⟨age, entry, le⟩, due⟩

end

/-! ### The grants of a grant event -/

/-- R73: from `s` to `t` the first `n` free tags, all of them ready, go to the first `n` waiters, in order, and nothing else
changes. -/
structure State.GrantsFirst (s t : State) (n : Nat) : Prop where
  waiters : n ≤ s.tags.waitQueue.length
  tags : n ≤ s.tags.freeList.length
  waitQueue : t.tags.waitQueue = s.tags.waitQueue.drop n
  freeList : t.tags.freeList = s.tags.freeList.drop n
  granted : ∀ p ∈ (s.tags.waitQueue.zip s.tags.freeList).take n,
    t.tagEntry p.2 = .held p.1 ∧ t.record p.1 = s.announcedAs (s.record p.1) p.2
  ready : ∀ x ∈ s.tags.freeList.take n, s.tagReady x = true
  otherRecord : ∀ b, b ∉ s.tags.waitQueue.take n → t.record b = s.record b
  otherTag : ∀ x, x ∉ s.tags.freeList.take n → t.tagEntry x = s.tagEntry x
  notice : t.notice = { s.notice with
    owed := if s.notice.session = .up then s.notice.owed ++ s.tags.waitQueue.take n else s.notice.owed }
  frame : t.undoingGrants s = s

theorem State.GrantsFirst.zero (s : State) : s.GrantsFirst s 0 where
  waiters := Nat.zero_le _
  tags := Nat.zero_le _
  waitQueue := rfl
  freeList := rfl
  granted _ mem := by simp at mem
  ready _ mem := by simp at mem
  otherRecord _ _ := rfl
  otherTag _ _ := rfl
  notice := by simp
  frame := rfl

/-- A grant to the head of the queue, then `n` grants to those behind it. -/
theorem State.GrantsFirst.succ {s t : State} {n : Nat} {b : BindingNo} {bs : List BindingNo} {x : Tag} {xs : List Tag}
    (queue : s.tags.waitQueue = b :: bs) (list : s.tags.freeList = x :: xs) (ready : s.tagReady x = true)
    (newWaiter : b ∉ bs) (newTag : x ∉ xs) (h : (s.grantOne b x).GrantsFirst t n) : s.GrantsFirst t (n + 1) := by
  obtain ⟨waiters, tags, waitQueue, freeList, granted, ready', otherRecord, otherTag, notice, frame⟩ := h
  simp only [grantOne_tags queue list] at waiters tags waitQueue freeList granted ready' otherRecord otherTag notice
  constructor
  case frame => exact undoingGrants_trans (s.grantOne_frame b x) frame
  all_goals simp only [queue, list, List.length_cons, List.drop_succ_cons, List.zip_cons_cons, List.take_succ_cons,
    List.forall_mem_cons]
  case waiters => omega
  case tags => omega
  case waitQueue => exact waitQueue
  case freeList => exact freeList
  case granted =>
    refine ⟨⟨?_, ?_⟩, fun ⟨c, y⟩ mem => ?_⟩
    · rw [otherTag x fun mem => newTag (List.mem_of_mem_take mem), tagEntry_grantOne_self]
    · rw [otherRecord b fun mem => newWaiter (List.mem_of_mem_take mem), record_grantOne_self]
    · obtain ⟨held, announced⟩ := granted _ mem
      have other : c ≠ b := fun e => newWaiter (e ▸ (List.of_mem_zip (List.mem_of_mem_take mem)).1)
      refine ⟨held, announced.trans ?_⟩
      rw [record_grantOne_ne s x other, announcedAs, announcedAs, grantOne_notice]
  case ready => exact ⟨ready, fun y mem => tagReady_of_grantOne ready (ready' y mem)⟩
  case otherRecord =>
    intro c notMem
    rw [List.mem_cons, not_or] at notMem
    rw [otherRecord c notMem.2, record_grantOne_ne s x notMem.1]
  case otherTag =>
    intro y notMem
    rw [List.mem_cons, not_or] at notMem
    rw [otherTag y notMem.2, tagEntry_grantOne_ne s b notMem.1]
  case notice =>
    rw [notice, grantOne_notice, owedWith]
    by_cases up : s.notice.session = .up <;> simp [up]

/-- R73: what the grants of a grant event do, when no record waits twice and no tag stands twice in the free list. -/
theorem State.exists_grantsFirst_grantUpTo (k : Nat) (s : State) (waiters : s.tags.waitQueue.Nodup)
    (tags : s.tags.freeList.Nodup) : ∃ n, s.GrantsFirst (s.grantUpTo k) n := by
  induction k generalizing s with
  | zero => exact ⟨0, .zero s⟩
  | succ k ih =>
    unfold grantUpTo
    split
    next b bs x xs queue list =>
      split
      next ready =>
        rw [queue, List.nodup_cons] at waiters
        rw [list, List.nodup_cons] at tags
        have grant := grantOne_tags queue list
        obtain ⟨n, grants⟩ := ih (s.grantOne b x) (by rw [grant]; exact waiters.2) (by rw [grant]; exact tags.2)
        exact ⟨n + 1, grants.succ queue list ready waiters.1 tags.1⟩
      next => exact ⟨0, .zero s⟩
    next => exact ⟨0, .zero s⟩

/-- R70: HOLD_OFF_EXPIRY is a grant event and withdraws the standing expiry (log 3). -/
theorem execHoldOffExpiry_eq {s : State} (awake : s.awake) :
    exec .holdOffExpiry s = .next ({ s with tags.holdOffDue := false }.grantEvent).arbitrate := by
  show execHoldOffExpiry s = _
  rw [execHoldOffExpiry, takeEvent_awake awake]

/-- Settles O23: the grants are `State.GrantsFirst` by induction on them, and they stop where `State.HeadLaw` holds. -/
theorem grantEventGrantsInOrder : Obligations.GrantEventGrantsInOrder := by
  refine ⟨fun _ awake => execHoldOffExpiry_eq awake, fun _ _ => rfl, State.tagReady_iff, fun s waiters tags => ?_⟩
  obtain ⟨n, grants⟩ := s.exists_grantsFirst_grantUpTo s.tags.waitQueue.length waiters tags
  exact ⟨n, grants.waiters, grants.tags, grants.waitQueue, grants.freeList, grants.granted, grants.ready, grants.otherRecord,
    grants.otherTag, grants.notice, s.headLaw_grantEvent, grants.frame⟩

end Sys2Proof.Machine

namespace Sys2Proof.Machine

set_option Elab.async false

/-! ### Closes of a LIVE record (R87 to R92) -/

section
variable {s : State} {c : FrameClose} {b : BindingNo}

theorem State.takeClose_live (found : s.resolveKey c.key = some b) (state : (s.record b).state = .live) :
    s.takeClose c = ((s.counted c).closeLive b c).grantIfReleased s := by
  simp only [takeClose_eq, handleClose, counted_resolveKey, found, counted_record, state]

@[simp] theorem State.counted_feeder (s : State) (c : FrameClose) :
    (s.counted c).feeder c.key.link = (s.feeder c.key.link).afterClose c := State.feeder_putFeeder_self ..

@[simp] theorem BindingRecord.seen_tag (r : BindingRecord) (c : FrameClose) (len : Nat) : (r.seen c len).tag = r.tag := rfl

@[simp] theorem BindingRecord.seen_geometry (r : BindingRecord) (c : FrameClose) (len : Nat) :
    (r.seen c len).geometry = r.geometry := rfl

/-- R17, R38: what a close of a LIVE record begins with, the lease renewed and the frame number noted. -/
def State.noted (s : State) (b : BindingNo) (c : FrameClose) : State :=
  s.putRecord b ((s.record b).seen c (s.classOf b).leaseLength)

@[simp] theorem State.noted_record (s : State) (b : BindingNo) (c : FrameClose) :
    (s.noted b c).record b = (s.record b).seen c (s.classOf b).leaseLength := record_putRecord_self ..

@[simp] theorem State.noted_classOf (s : State) (b : BindingNo) (c : FrameClose) : (s.noted b c).classOf b = s.classOf b := by
  simp only [classOf, noted_record]
  rfl

/-- A further change of a record just written is one write. -/
theorem State.updateRecord_putRecord (s : State) (b : BindingNo) (r : BindingRecord) (f : BindingRecord → BindingRecord) :
    (s.putRecord b r).updateRecord b f = s.putRecord b (f r) := by
  rw [updateRecord_eq, record_putRecord_self, putRecord_putRecord]

theorem State.renewLease_noteFrame (s : State) (b : BindingNo) (c : FrameClose) :
    (s.renewLease b).updateRecord b (·.noteFrame c) = s.noted b c := by
  rw [renewLease_updateRecord, BindingRecord.noteFrame_eq]
  rfl

/-- R87: a good stored close of the record's own geometry goes to the egress queue, if that has room. -/
theorem State.closeLive_stored {x : Tag} (tag : (s.record b).tag = some x) (good : c.good = true)
    (geometry : (s.record b).geometry = some c.geometry) (stored : c.stored = true) : s.closeLive b c =
      if s.trunk.queue.length < 40 then (s.noted b c).appendFrame b x c else (s.noted b c).queueFull b c := by
  simp only [closeLive, renewLease_noteFrame, noted_record, BindingRecord.seen_tag, BindingRecord.seen_geometry, tag, good,
    geometry, stored, beq_self_eq_true, Bool.and_self, if_true]
  rfl

/-- R90: a good close of the record's own geometry that is not stored is withheld. -/
theorem State.closeLive_unstored (good : c.good = true) (geometry : (s.record b).geometry = some c.geometry)
    (stored : c.stored = false) : s.closeLive b c = (s.returnCells c.cells.length).putRecord b
      { (s.record b).seen c (s.classOf b).leaseLength with withheld := satSucc (s.record b).withheld, consecutiveBad := 0 } := by
  have own : (c.good && (s.record b).geometry == some c.geometry) = true := by simp [good, geometry]
  simp only [closeLive, renewLease_noteFrame, noted_record, BindingRecord.seen_geometry, own, stored, if_true]
  exact updateRecord_putRecord (s.returnCells c.cells.length) ..

/-- R91: any other close is faulty. -/
theorem State.closeLive_faulty (faulty : c.good = false ∨ (s.record b).geometry ≠ some c.geometry) :
    s.closeLive b c = (s.noted b c).closeFaulty b c := by
  have other : (c.good && (s.record b).geometry == some c.geometry) = false := by
    rcases faulty with h | h <;> simp [h]
  simp only [closeLive, renewLease_noteFrame, noted_record, BindingRecord.seen_geometry, other, Bool.false_eq_true, if_false]

/-- R88, R130: a forwarded frame. -/
theorem State.noted_appendFrame (s : State) (b : BindingNo) (x : Tag) (c : FrameClose) :
    (s.noted b c).appendFrame b x c = { s with trunk.queue := s.trunk.queue ++
      [Descriptor.mk (some b) x c.cells c.frameNumber (s.classOf b).priority false] }.putRecord b
        { (s.record b).seen c (s.classOf b).leaseLength with
          inFlight := (s.record b).inFlight + 1, forwarded := satSucc (s.record b).forwarded, consecutiveBad := 0 } := by
  simp only [appendFrame, noted_classOf]
  exact updateRecord_putRecord { s with trunk.queue := s.trunk.queue ++
    [Descriptor.mk (some b) x c.cells c.frameNumber (s.classOf b).priority false] } ..

/-- R89: the queue-full overrun. -/
theorem State.noted_queueFull (s : State) (b : BindingNo) (c : FrameClose) :
    (s.noted b c).queueFull b c = ({ s with
      freeCells := s.freeCells + c.cells.length, attention.part := s.partAfter 0x02#6 }.putFeeder c.key.link
        { s.feeder c.key.link with overruns := satSucc (s.feeder c.key.link).overruns }).putRecord b
        { (s.record b).seen c (s.classOf b).leaseLength with
          withheld := satSucc (s.record b).withheld, consecutiveBad := 0 } := by
  rw [queueFull, raisePart_eq]
  exact congrArg (fun u : State => { u with attention.part := s.partAfter 0x02#6 }.putFeeder c.key.link
    { s.feeder c.key.link with overruns := satSucc (s.feeder c.key.link).overruns })
    (updateRecord_putRecord (s.returnCells c.cells.length) ..)

/-- R92: the suspension of a record just written. -/
theorem State.suspend_putRecord (s : State) (b : BindingNo) (r : BindingRecord) :
    (s.putRecord b r).suspend b = s.putRecord b { r with
      state := .suspended, consecutiveBad := 0, run := 0, faults := 0, trial := none
      lease := some s.classes[r.cls].leaseLength, reasons := s.reasonsAfter r.reasons 0x02#5 } := by
  simp only [suspend, raiseRecord_eq, startLease_eq, updateRecord_eq, record_putRecord_self, putRecord_putRecord, classOf]
  rfl

/-- R91: a faulty frame is withheld and counted. -/
def BindingRecord.faulted (r : BindingRecord) (c : FrameClose) : BindingRecord :=
  { r with
    bad := if c.good then r.bad else satSucc r.bad
    withheld := satSucc r.withheld, consecutiveBad := min (r.consecutiveBad + 1) 15 }

/-- R91, R92: a faulty close, which suspends the record when its consecutive bad frames meet the fault threshold. -/
theorem State.closeFaulty_putRecord (s : State) (b : BindingNo) (r : BindingRecord) (c : FrameClose) :
    (s.putRecord b r).closeFaulty b c = (s.returnCells c.cells.length).putRecord b
      (if s.classes[r.cls].faultThreshold ≤ (r.faulted c).consecutiveBad then
        { r.faulted c with
          state := .suspended, consecutiveBad := 0, run := 0, faults := 0, trial := none
          lease := some s.classes[r.cls].leaseLength, reasons := s.reasonsAfter r.reasons 0x02#5 }
      else r.faulted c) := by
  have write : ((s.putRecord b r).returnCells c.cells.length).updateRecord b (fun r =>
      { (r.countBad c).countWithheld with consecutiveBad := min (r.consecutiveBad + 1) Config.maxRun }) =
        (s.returnCells c.cells.length).putRecord b (r.faulted c) :=
    (updateRecord_putRecord (s.returnCells c.cells.length) ..).trans (by rw [BindingRecord.countBad_eq]; rfl)
  simp only [closeFaulty, write, suspend_putRecord, classOf, record_putRecord_self]
  split
  next h => exact .symm (congrArg _ (if_pos h))
  next h => exact .symm (congrArg _ (if_neg h))

/-- What a write of a link and of a record reads, and leaves alone. -/
theorem State.puts_read {u t : State} {l : LinkNo} {f : FeederLink} {r : BindingRecord}
    (h : t = (u.putFeeder l f).putRecord b r) (records : u.records = s.records) (feeders : u.feeders = s.feeders) :
    s.othersKept t b ∧ s.linksKept t l ∧ t.record b = r ∧ t.feeder l = f := by
  subst h
  refine ⟨fun d other => ?_, fun m other => ?_, record_putRecord_self .., feeder_putFeeder_self ..⟩
  · rw [record_putRecord_ne _ _ other]
    exact record_congr records d
  · refine (feeder_putFeeder_ne u f other).trans ?_
    rw [feeder, feeders, feeder]

/-- R88: a forwardable close while the egress queue has room. -/
theorem State.takeClose_forwards {x : Tag} (found : s.resolveKey c.key = some b) (state : (s.record b).state = .live)
    (tag : (s.record b).tag = some x) (good : c.good = true) (geometry : (s.record b).geometry = some c.geometry)
    (stored : c.stored = true) (room : s.trunk.queue.length < 40) :
    s.takeClose c = ({ s with trunk.queue := s.trunk.queue ++
      [Descriptor.mk (some b) x c.cells c.frameNumber (s.classOf b).priority false] }.putFeeder c.key.link
        ((s.feeder c.key.link).afterClose c)).putRecord b { (s.record b).seen c (s.classOf b).leaseLength with
          inFlight := (s.record b).inFlight + 1, forwarded := satSucc (s.record b).forwarded, consecutiveBad := 0 } := by
  rw [takeClose_live found state, closeLive_stored (s := s.counted c) tag good geometry stored, if_pos (by exact room),
    noted_appendFrame]
  exact grantIfReleased_of_tags rfl

/-- R89: a forwardable close while the egress queue is full. -/
theorem State.takeClose_queueFull {x : Tag} (found : s.resolveKey c.key = some b) (state : (s.record b).state = .live)
    (tag : (s.record b).tag = some x) (good : c.good = true) (geometry : (s.record b).geometry = some c.geometry)
    (stored : c.stored = true) (full : 40 ≤ s.trunk.queue.length) :
    s.takeClose c = ({ s with
      freeCells := s.freeCells + c.cells.length, attention.part := s.partAfter 0x02#6 }.putFeeder c.key.link
        { (s.feeder c.key.link).afterClose c with
          overruns := satSucc ((s.feeder c.key.link).afterClose c).overruns }).putRecord b
        { (s.record b).seen c (s.classOf b).leaseLength with
          withheld := satSucc (s.record b).withheld, consecutiveBad := 0 } := by
  rw [takeClose_live found state, closeLive_stored (s := s.counted c) tag good geometry stored,
    if_neg (by exact Nat.not_lt.mpr full), noted_queueFull, counted_feeder]
  refine (grantIfReleased_of_tags rfl).trans (congrArg (State.putRecord · b _) ?_)
  exact putFeeder_putFeeder { s with
    freeCells := s.freeCells + c.cells.length, attention.part := s.partAfter 0x02#6 } ..

end

/-- Settles O16: each case is one write of the record and of its link, beside the egress queue or the cells. -/
theorem liveCloseIsForwarded : Obligations.LiveCloseIsForwarded := by
  intro s c b x found state tag good geometry stored
  by_cases room : s.trunk.queue.length < 40
  · have ends := State.takeClose_forwards found state tag good geometry stored room
    obtain ⟨others, links, record, link⟩ := State.puts_read ends rfl rfl
    exact ⟨others, links, fun _ => ⟨by rw [ends]; rfl, record, link, by rw [ends]; rfl⟩,
      fun full => absurd room (Nat.not_lt.mpr full)⟩
  · have ends := State.takeClose_queueFull found state tag good geometry stored (Nat.not_lt.mp room)
    obtain ⟨others, links, record, link⟩ := State.puts_read ends rfl rfl
    exact ⟨others, links, fun room' => absurd room' room,
      fun _ => ⟨by rw [ends]; rfl, record, link, by rw [ends]; rfl, by rw [ends]; rfl⟩⟩

/-- Settles O17: a withheld or faulty close gives its cells back and is one write of the record; neither grants. -/
theorem liveCloseIsWithheld : Obligations.LiveCloseIsWithheld := by
  intro s c b found state
  have run := State.takeClose_live found state
  have put {r : BindingRecord} (handled : (s.counted c).closeLive b c = (s.settled c).putRecord b r) :
      s.closeKeeps (s.takeClose c) c b ∧ (s.takeClose c).record b = r ∧
        (s.takeClose c).feeder c.key.link = (s.feeder c.key.link).afterClose c := by
    rw [handled] at run
    exact State.closeKeeps_of_eq (run.trans (State.grantIfReleased_of_tags rfl))
  have unstored (good geometry stored) := put (State.closeLive_unstored (s := s.counted c) (b := b) good geometry stored)
  have faulty (h : c.good = false ∨ (s.record b).geometry ≠ some c.geometry) :=
    put ((State.closeLive_faulty (s := s.counted c) h).trans (State.closeFaulty_putRecord ..))
  refine ⟨fun good geometry stored => (unstored good geometry stored).2.1, fun h => (faulty h).2.1, fun h => ?_⟩
  by_cases own : c.good = true ∧ (s.record b).geometry = some c.geometry
  · obtain ⟨keeps, -, link⟩ := unstored own.1 own.2 (by simpa [own] using h)
    exact ⟨keeps, link⟩
  · obtain ⟨keeps, -, link⟩ := faulty (by simpa [imp_iff_not_or] using own)
    exact ⟨keeps, link⟩

end Sys2Proof.Machine

namespace Sys2Proof.Machine

set_option Elab.async false

/-! ### Closes of a SUSPENDED or SILENT record (R93 to R96) -/

section
variable {s : State} {c : FrameClose} {b : BindingNo}

theorem State.takeClose_requalifying (found : s.resolveKey c.key = some b)
    (state : (s.record b).state = .suspended ∨ (s.record b).state = .silent) :
    s.takeClose c = ((s.settled c).closeRequalifying b c).grantIfReleased s := by
  rcases state with state | state <;>
    simp only [takeClose_eq, handleClose, counted_resolveKey, found, counted_record, state, settled_eq]

/-- R93, R94: what every close leaves on a SUSPENDED or SILENT record. -/
def BindingRecord.heldBack (r : BindingRecord) (c : FrameClose) (len : Nat) : BindingRecord :=
  { r.seen c len with withheld := satSucc r.withheld }

/-- R94: the record after a good close, before its run is compared. -/
def BindingRecord.ran (r : BindingRecord) (c : FrameClose) (len : Nat) : BindingRecord :=
  { r.heldBack c len with trial := some c.geometry, run := r.runAfter c }

/-- R95: the record after a bad close, before its suspension faults are compared. -/
def BindingRecord.failed (r : BindingRecord) (c : FrameClose) (len : Nat) : BindingRecord :=
  { r.heldBack c len with run := 0, bad := satSucc r.bad, faults := min (r.faults + 1) 63 }

/-- R96: a good overrun close is held back and does nothing more. -/
theorem State.closeRequalifying_overran (good : c.good = true) (overrun : c.overrun = true) :
    s.closeRequalifying b c = s.putRecord b ((s.record b).heldBack c (s.classOf b).leaseLength) := by
  have overran : c.overran = true := by simp [FrameClose.overran, good, overrun]
  simp only [closeRequalifying, overran, if_true, renewLease_updateRecord, BindingRecord.noteFrame_eq]
  rfl

/-- R94, R97: a good close builds the run, and requalifies the record when the run meets the admission count. -/
theorem State.closeRequalifying_good (good : c.good = true) (overrun : c.overrun = false) :
    s.closeRequalifying b c =
      let closed := s.putRecord b ((s.record b).ran c (s.classOf b).leaseLength)
      if (s.classOf b).admissionCount ≤ (s.record b).runAfter c then closed.requalify b else closed := by
  have overran : c.overran = false := by simp [FrameClose.overran, overrun]
  have write : (s.renewLease b).updateRecord b (fun r => ((r.buildRun c).noteFrame c).countWithheld) =
      s.putRecord b ((s.record b).ran c (s.classOf b).leaseLength) := by
    rw [renewLease_updateRecord, BindingRecord.buildRun_eq, BindingRecord.noteFrame_eq]
    rfl
  simp only [closeRequalifying, overran, good, Bool.false_eq_true, if_false, if_true, write, runMeets_putRecord, decide_eq_true_eq]
  rfl

/-- R95: a bad close of an unpinned record retires it when its suspension faults meet the retire threshold (log 26). -/
theorem State.closeRequalifying_bad (bad : c.good = false) :
    s.closeRequalifying b c =
      let closed := s.putRecord b ((s.record b).failed c (s.classOf b).leaseLength)
      if (s.record b).pinned = false ∧ (s.classOf b).retireThreshold ≤ min ((s.record b).faults + 1) 63 then
        closed.beginRetirement b .fault else closed := by
  have overran : c.overran = false := by simp [FrameClose.overran, bad]
  have write : (s.renewLease b).updateRecord b (fun r => { ((r.countBad c).noteFrame c).countWithheld with
      run := 0, faults := min (r.faults + 1) Config.maxFaults }) =
        s.putRecord b ((s.record b).failed c (s.classOf b).leaseLength) := by
    rw [renewLease_updateRecord, BindingRecord.countBad_eq, BindingRecord.noteFrame_eq, bad]
    rfl
  simp only [closeRequalifying, overran, bad, Bool.false_eq_true, if_false, write, classOf, record_putRecord_self,
    Bool.and_eq_true, Bool.not_eq_true', decide_eq_true_eq]
  rfl

/-! ### Requalification (R97 to R101) -/

/-- R86: entry to LIVE of a record just written. -/
theorem State.enterLive_putRecord (s : State) (b : BindingNo) (r : BindingRecord) :
    (s.putRecord b r).enterLive b = s.putRecord b { r with
      state := .live, run := 0, consecutiveBad := 0, faults := 0, trial := none, phase := .none, announced := true
      lease := some s.classes[r.cls].leaseLength, reasons := s.reasonsAfter r.reasons 0x01#5 } := by
  simp only [enterLive_eq, record_putRecord_self, putRecord_putRecord, classOf]
  rfl

/-- R99: the notice phase of a record that requalifies unannounced. -/
def State.requalifyingPhase (s : State) (r : BindingRecord) : NoticePhase :=
  if 0 < r.inFlight then .drain else if s.notice.session = .up then .owed else .awaitSession

/-- R99: the owed list after a record requalifies unannounced. -/
def State.owedRequalified (s : State) (b : BindingNo) (r : BindingRecord) : List BindingNo :=
  if 0 < r.inFlight then s.notice.owed else s.owedWith b

/-- R99: entry to ANNOUNCING from requalification, of a record just written. -/
theorem State.announceRequalified_putRecord (s : State) (b : BindingNo) (r : BindingRecord) :
    (s.putRecord b r).announceRequalified b = { s with notice.owed := s.owedRequalified b r }.putRecord b
      (r.requalified (s.requalifyingPhase r)) := by
  rw [announceRequalified_eq, record_putRecord_self, owedRequalified, requalifyingPhase]
  split
  · exact putRecord_putRecord ..
  · rw [oweOrAwait_eq, record_putRecord_self, putRecord_putRecord]
    exact putRecord_putRecord { s with notice.owed := s.owedWith b } ..

/-- R98: the record's own geometry, announced. -/
theorem State.requalify_live (s : State) (b : BindingNo) {r : BindingRecord} (same : r.trial = r.geometry)
    (announced : r.announced = true) : (s.putRecord b r).requalify b = s.putRecord b { r with
      state := .live, run := 0, consecutiveBad := 0, faults := 0, trial := none, phase := .none, announced := true
      lease := some s.classes[r.cls].leaseLength, reasons := s.reasonsAfter r.reasons 0x01#5 } := by
  simp only [requalify, record_putRecord_self, same, if_true, announced, enterLive_putRecord]

/-- R99: the record's own geometry, not announced. -/
theorem State.requalify_announcing (s : State) (b : BindingNo) {r : BindingRecord} (same : r.trial = r.geometry)
    (announced : r.announced = false) : (s.putRecord b r).requalify b =
      { s with notice.owed := s.owedRequalified b r }.putRecord b (r.requalified (s.requalifyingPhase r)) := by
  simp only [requalify, record_putRecord_self, same, if_true, announced, Bool.false_eq_true, if_false,
    announceRequalified_putRecord]

/-- R100: another geometry, with reshape allowed. -/
theorem State.requalify_reshaped (s : State) (b : BindingNo) {r : BindingRecord} (other : r.trial ≠ r.geometry)
    (allowed : s.classes[r.cls].reshapeAllowed = true) : (s.putRecord b r).requalify b =
      { s with notice.owed := s.owedRequalified b r }.putRecord b
        { r.requalified (s.requalifyingPhase r) with
          geometry := r.trial, reasons := s.reasonsAfter r.reasons 0x08#5 } := by
  simp only [requalify, classOf, record_putRecord_self, other, if_false]
  refine (if_pos allowed).trans ?_
  rw [updateRecord_putRecord, announceRequalified_putRecord, raiseRecord_eq, record_putRecord_self, putRecord_putRecord]
  rfl

/-- R101: another geometry, with reshape not allowed. -/
theorem State.requalify_retires (s : State) (b : BindingNo) {r : BindingRecord} (other : r.trial ≠ r.geometry)
    (refused : s.classes[r.cls].reshapeAllowed = false) :
    (s.putRecord b r).requalify b = (s.putRecord b r).beginRetirement b .geometry := by
  simp only [requalify, classOf, record_putRecord_self, other, if_false]
  exact if_neg (by simp only [Bool.not_eq_true]; exact refused)

end

/-- Settles O18: the branches of `State.closeRequalifying` that write the record and do no more. -/
theorem requalifyingClose : Obligations.RequalifyingClose := by
  intro s c b found state
  have run := State.takeClose_requalifying found state
  have put {r : BindingRecord} (handled : (s.settled c).closeRequalifying b c = (s.settled c).putRecord b r) :
      (s.takeClose c).record b = r ∧ s.closeKeeps (s.takeClose c) c b ∧
        (s.takeClose c).feeder c.key.link = (s.feeder c.key.link).afterClose c := by
    rw [handled] at run
    obtain ⟨keeps, record, link⟩ := State.closeKeeps_of_eq (run.trans (State.grantIfReleased_of_tags rfl))
    exact ⟨record, keeps, link⟩
  have overran (good overrun) := put (State.closeRequalifying_overran good overrun)
  have short (good overrun) (low : (s.record b).runAfter c < (s.classOf b).admissionCount) :=
    put ((State.closeRequalifying_good good overrun).trans (if_neg (Nat.not_le.mpr low)))
  have spared (bad) (h : (s.record b).pinned = true ∨ min ((s.record b).faults + 1) 63 < (s.classOf b).retireThreshold) :=
    put ((State.closeRequalifying_bad bad).trans (if_neg fun ⟨unpinned, met⟩ =>
      h.elim (fun pinned => by cases unpinned.symm.trans pinned) (Nat.not_lt.mpr met)))
  refine ⟨fun good overrun => (overran good overrun).1, fun bad h => (spared bad h).1,
    fun good overrun low => (short good overrun low).1, ?_⟩
  rintro (⟨good, overrun | low⟩ | ⟨bad, h⟩)
  · exact (overran good overrun).2
  · cases overrun : c.overrun with
    | true => exact (overran good overrun).2
    | false => exact (short good overrun low).2
  · exact (spared bad h).2

/-- Settles O19: the outcomes are the branches of `State.requalify`, and the retirement of a record with too many faults. -/
theorem requalificationOutcome : Obligations.RequalificationOutcome := by
  intro s c b found state r seen ran faults base announcing owed t
  have run : t = (base.closeRequalifying b c).grantIfReleased s := State.takeClose_requalifying found state
  refine ⟨fun good overrun met => ?_, fun bad unpinned met => ?_⟩
  · have requalifies : base.closeRequalifying b c = (base.putRecord b ran).requalify b :=
      (State.closeRequalifying_good good overrun).trans (if_pos met)
    rw [requalifies] at run
    refine ⟨fun same known => ?_, fun same unknown => ?_, fun other allowed => ?_, fun other refused => ?_⟩
    · rw [base.requalify_live b (r := ran) same.symm known] at run
      exact run.trans (State.grantIfReleased_of_tags rfl)
    · have kept : announcing = { announcing with geometry := r.geometry } := by rw [same]
      rw [base.requalify_announcing b (r := ran) same.symm unknown] at run
      rw [kept]
      exact run.trans (State.grantIfReleased_of_tags rfl)
    · rw [base.requalify_reshaped b (r := ran) other.symm allowed] at run
      exact run.trans (State.grantIfReleased_of_tags rfl)
    · rw [base.requalify_retires b (r := ran) other.symm refused] at run
      exact run
  · rw [State.closeRequalifying_bad bad, if_pos ⟨unpinned, met⟩] at run
    exact run

end Sys2Proof.Machine

namespace Sys2Proof.Machine

set_option Elab.async false

/-! ### The session law, and the changes that keep it

Outside UP the law asks four things: no window entry, no notice owed, no record announced and none LIVE. A change keeps it when
it adds none of them, or when the session is UP. -/

/-- R86, R152 for one record outside an UP session. -/
def BindingRecord.Unannounced (r : BindingRecord) : Prop := r.announced = false ∧ r.state ≠ .live

theorem BindingRecord.unannounced_free : BindingRecord.free.Unannounced := ⟨rfl, nofun⟩

/-- R119: a record that has completed is not announced. -/
theorem State.unannounced_retiredOrFree (s : State) (r : BindingRecord) : (s.retiredOrFree r).Unannounced := by
  unfold retiredOrFree
  split
  · exact BindingRecord.unannounced_free
  · exact ⟨rfl, nofun⟩

/-- R152, Table 8-B: session loss takes the announced flag from every record, and leaves none LIVE. -/
theorem BindingRecord.unannounced_atSessionLoss (r : BindingRecord) : r.atSessionLoss.Unannounced := by
  unfold atSessionLoss
  cases state : r.state <;> exact ⟨rfl, by simp⟩

section
variable {s t : State}

theorem State.SessionLaw.of_up (up : t.notice.session = .up) (hello : t.notice.hello = none) : t.SessionLaw :=
  ⟨fun other => absurd up other, fun h => by simp [hello] at h⟩

/-- R149: an UP session has no HELLO in the slot. -/
theorem State.SessionLaw.hello_of_up (h : s.SessionLaw) (up : s.notice.session = .up) : s.notice.hello = none := by
  by_contra present
  rcases h.2 (Option.isSome_iff_ne_none.mpr present) with e | e <;> simp [up] at e

theorem State.SessionLaw.up_of_entry (h : s.SessionLaw) {e : WindowEntry} (entry : e ∈ s.notice.window) :
    s.notice.session = .up := by
  by_contra other
  simp [(h.1 other).1] at entry

theorem State.SessionLaw.up_of_announced (h : s.SessionLaw) {b : BindingNo} (announced : (s.record b).announced = true) :
    s.notice.session = .up := by
  by_contra other
  simp [((h.1 other).2.2 b).1] at announced

/-- A change within the session that adds nothing to what must be absent outside UP. -/
theorem State.SessionLaw.keep (h : s.SessionLaw) (session : t.notice.session = s.notice.session)
    (hello : t.notice.hello.isSome = s.notice.hello.isSome) (window : s.notice.window = [] → t.notice.window = [])
    (owed : s.notice.session ≠ .up → s.notice.owed = [] → t.notice.owed = [])
    (records : s.notice.session ≠ .up → ∀ b, (s.record b).Unannounced → (t.record b).Unannounced) : t.SessionLaw := by
  refine ⟨fun other => ?_, fun present => ?_⟩
  · rw [session] at other
    obtain ⟨noWindow, noOwed, quiet⟩ := h.1 other
    exact ⟨window noWindow, owed other noOwed, fun b => records other b (quiet b)⟩
  · rw [session]
    exact h.2 (hello ▸ present)

/-- The law reads the Notice Unit and the records alone. -/
theorem State.SessionLaw.congr (h : s.SessionLaw) (notice : t.notice = s.notice) (records : t.records = s.records) :
    t.SessionLaw :=
  h.keep (by rw [notice]) (by rw [notice]) (by rw [notice]; exact id) (by rw [notice]; exact fun _ => id)
    fun _ b quiet => by rw [record_congr records]; exact quiet

/-! #### Writes of one record, of the owed list, of the window and of the hello slot -/

theorem State.SessionLaw.putRecord (h : s.SessionLaw) (b : BindingNo) {r : BindingRecord}
    (self : s.notice.session ≠ .up → (s.record b).Unannounced → r.Unannounced) : (s.putRecord b r).SessionLaw := by
  refine h.keep rfl rfl id (fun _ => id) fun other c quiet => ?_
  rw [record_putRecord]
  split
  next same => exact self other (same ▸ quiet)
  · exact quiet

/-- A change of a record that does not announce it and does not make it LIVE. -/
theorem State.SessionLaw.updateRecord (h : s.SessionLaw) (b : BindingNo) {f : BindingRecord → BindingRecord}
    (self : (s.record b).Unannounced → (f (s.record b)).Unannounced := by exact id) : (s.updateRecord b f).SessionLaw :=
  h.putRecord b fun _ => self

theorem State.SessionLaw.setOwed (h : s.SessionLaw) {l : List BindingNo}
    (owed : s.notice.session ≠ .up → s.notice.owed = [] → l = []) : { s with notice.owed := l }.SessionLaw :=
  h.keep rfl rfl id owed fun _ _ => id

theorem State.SessionLaw.setWindow (h : s.SessionLaw) {w : List WindowEntry} {q : List Byte}
    (window : s.notice.window = [] → w = []) : { s with notice.window := w, notice.retransmit := q }.SessionLaw :=
  h.keep rfl rfl window (fun _ => id) fun _ _ => id

theorem State.SessionLaw.setDue (h : s.SessionLaw) {q : List Byte} : { s with notice.retransmit := q }.SessionLaw :=
  h.setWindow id

theorem State.SessionLaw.updateEntry (h : s.SessionLaw) (q : Byte) (f : WindowEntry → WindowEntry) :
    (s.updateEntry q f).SessionLaw :=
  h.keep rfl rfl (fun empty => by rw [State.updateEntry, empty]; rfl) (fun _ => id) fun _ _ => id

theorem State.SessionLaw.setHello (h : s.SessionLaw) {x : Option Hello} (hello : x.isSome = s.notice.hello.isSome) :
    { s with notice.hello := x }.SessionLaw :=
  h.keep rfl hello id (fun _ => id) fun _ _ => id

/-! #### Shared operations -/

variable (h : s.SessionLaw)
include h

theorem State.SessionLaw.returnCells (n : Nat) : (s.returnCells n).SessionLaw := h.congr rfl rfl

theorem State.SessionLaw.updateFeeder (l : LinkNo) (f : FeederLink → FeederLink) : (s.updateFeeder l f).SessionLaw :=
  h.congr rfl rfl

theorem State.SessionLaw.setTrunk (x : Transmitter) : { s with trunk := x }.SessionLaw := h.congr rfl rfl

theorem State.SessionLaw.raisePart (r : PartReason) : (s.raisePart r).SessionLaw := by
  rw [raisePart_eq]
  exact h.congr rfl rfl

theorem State.SessionLaw.raiseRecord (b : BindingNo) (r : RecordReason) : (s.raiseRecord b r).SessionLaw := by
  rw [raiseRecord_eq]
  exact h.putRecord b fun _ => id

theorem State.SessionLaw.startLease (b : BindingNo) : (s.startLease b).SessionLaw := h.updateRecord b

theorem State.SessionLaw.goFree (b : BindingNo) : (s.goFree b).SessionLaw :=
  h.updateRecord b fun _ => BindingRecord.unannounced_free

/-- R55, R99: a notice is owed in an UP session only. -/
theorem State.SessionLaw.oweWith (b : BindingNo) : { s with notice.owed := s.owedWith b }.SessionLaw :=
  h.setOwed fun other empty => by rw [owedWith, if_neg other, empty]

theorem State.SessionLaw.oweOrAwait (b : BindingNo) : (s.oweOrAwait b).SessionLaw := by
  rw [oweOrAwait_eq]
  exact (h.oweWith b).putRecord b fun _ => id

theorem State.SessionLaw.oweNotice (b : BindingNo) (up : s.notice.session = .up) : (s.oweNotice b).SessionLaw :=
  .of_up up (h.hello_of_up up)

theorem State.SessionLaw.dropsTags (d : s.DropsTags t) : t.SessionLaw := by
  have records := d.records
  obtain ⟨_, _, _, _, _, rfl⟩ := d.frame
  refine h.keep rfl rfl id (fun _ => id) fun _ b quiet => ?_
  rcases records b with e | e <;> rw [e] <;> exact quiet

theorem State.SessionLaw.releaseTag (x : Tag) : (s.releaseTag x).SessionLaw := h.dropsTags (s.dropsTags_releaseTag x)

theorem State.SessionLaw.releaseTagOf (b : BindingNo) : (s.releaseTagOf b).SessionLaw := by
  unfold State.releaseTagOf
  split
  · exact h.releaseTag _
  · exact h

theorem State.SessionLaw.completeRetirement (b : BindingNo) : (s.completeRetirement b).SessionLaw := by
  rw [completeRetirement_eq]
  exact h.putRecord b fun _ _ => s.unannounced_retiredOrFree _

theorem State.SessionLaw.releaseAndComplete (b : BindingNo) : (s.releaseAndComplete b).SessionLaw :=
  (h.releaseTagOf b).completeRetirement b

theorem State.SessionLaw.leaveWaitQueue (b : BindingNo) : (s.leaveWaitQueue b).SessionLaw := h.congr rfl rfl

theorem State.SessionLaw.lapse (b : BindingNo) : (s.lapse b).SessionLaw :=
  ((h.leaveWaitQueue b).releaseTagOf b).goFree b

/-- R86: only an UP session makes a record LIVE. -/
theorem State.SessionLaw.enterLive (b : BindingNo) (up : s.notice.session = .up) : (s.enterLive b).SessionLaw := by
  rw [enterLive_eq]
  exact h.putRecord b fun other => absurd up other

theorem State.SessionLaw.enterSilent (b : BindingNo) : (s.enterSilent b).SessionLaw := by
  rw [enterSilent_eq]
  exact h.putRecord b fun _ quiet => ⟨quiet.1, nofun⟩

/-! #### Retirement -/

/-- R116: the UNBIND of an announced record is owed, and only an UP session has one. -/
theorem State.SessionLaw.drainEnd (b : BindingNo) : (s.drainEnd b).SessionLaw := by
  unfold State.drainEnd
  split
  next announced => exact h.oweNotice b (h.up_of_announced announced)
  · split
    · exact h.releaseAndComplete b
    · exact h.updateRecord b

theorem State.SessionLaw.moveDrained (b : BindingNo) : (s.moveDrained b).SessionLaw := by
  unfold State.moveDrained
  split
  · split
    · exact h.drainEnd b
    · exact h.oweOrAwait b
    · exact h
  · exact h

/-- A record on its way to RETIRING is LIVE no longer. -/
theorem State.SessionLaw.retiring (b : BindingNo) {f : BindingRecord → BindingRecord}
    (state : (f (s.record b)).state = .retiring := by rfl)
    (announced : (f (s.record b)).announced = (s.record b).announced := by rfl) : (s.updateRecord b f).SessionLaw :=
  h.updateRecord b fun quiet => ⟨announced.trans quiet.1, by rw [state]; nofun⟩

theorem State.SessionLaw.retireAnnouncing (b : BindingNo) (c : RetireCause) : (s.retireAnnouncing b c).SessionLaw := by
  unfold State.retireAnnouncing
  split
  · exact h.retiring b
  · split
    · exact h.retiring b
    · have caused : (s.updateRecord b fun r => { r with cause := some c }).SessionLaw := h.updateRecord b
      exact (caused.setOwed fun _ empty => by rw [empty]; rfl).releaseAndComplete b
  all_goals exact h.retiring b

theorem State.SessionLaw.beginRetirement (b : BindingNo) (c : RetireCause) : (s.beginRetirement b c).SessionLaw := by
  have before : (s.retireBeforeAnnouncing b c).SessionLaw :=
    ((h.updateRecord b).leaveWaitQueue b).releaseAndComplete b
  have forwarding : (s.retireForwarding b c).SessionLaw := (h.retiring b).moveDrained b
  unfold State.beginRetirement
  split
  · exact before
  · exact before
  · exact h.retireAnnouncing b c
  · exact forwarding
  · exact forwarding
  · exact forwarding
  all_goals exact h

/-! #### Grants -/

theorem State.SessionLaw.grantOne (b : BindingNo) (x : Tag) : (s.grantOne b x).SessionLaw := by
  rw [grantOne_eq]
  have owed := h.oweWith b
  exact (owed.congr (t := { s with
    tags := { s.tags with
      table := s.tags.table.set x (.held b), freeList := s.tags.freeList.erase x
      waitQueue := s.tags.waitQueue.erase b }
    notice.owed := s.owedWith b }) rfl rfl).putRecord b fun _ quiet => ⟨quiet.1, nofun⟩

omit h in
theorem State.SessionLaw.grantUpTo (n : Nat) {s : State} (h : s.SessionLaw) : (s.grantUpTo n).SessionLaw := by
  induction n generalizing s with
  | zero => exact h
  | succ n ih =>
    unfold State.grantUpTo
    split
    · split
      · exact ih (h.grantOne _ _)
      · exact h
    · exact h

theorem State.SessionLaw.grantEvent : s.grantEvent.SessionLaw := h.grantUpTo _

theorem State.SessionLaw.grantIfReleased (before : State) : (s.grantIfReleased before).SessionLaw := by
  unfold State.grantIfReleased
  split
  · exact h.grantEvent
  · exact h

/-! #### The arbiter -/

theorem State.SessionLaw.countRetransmission (n : Nat) : (s.countRetransmission n).SessionLaw := by
  unfold State.countRetransmission
  split
  · exact h.congr rfl rfl
  · exact h

theorem State.SessionLaw.beginData (p : Priority) (d : Descriptor) : (s.beginData p d).SessionLaw := by
  unfold State.beginData
  split
  · exact h.congr rfl rfl
  · exact h

omit h in
/-- R155 item 3: a first notice is offered in an UP session only. -/
theorem State.owedOffer_up {o : Offer} (offer : s.owedOffer = some o) : s.notice.session = .up := by
  unfold owedOffer at offer
  split at offer
  next up => exact up.1
  next => cases offer

theorem State.SessionLaw.beginHello {g : Hello} (slot : s.notice.hello = some g) : (s.beginHello g).SessionLaw := by
  refine State.SessionLaw.congr ((h.countRetransmission g.count).setHello ?_) rfl rfl
  rw [countRetransmission_notice, slot]
  rfl

theorem State.SessionLaw.beginAgain (e : WindowEntry) : (s.beginAgain e).SessionLaw :=
  State.SessionLaw.congr (((h.countRetransmission e.count).updateEntry e.seq _).setDue) rfl rfl

theorem State.SessionLaw.beginFirst (b : BindingNo) (x : Tag) (up : s.notice.session = .up) : (s.beginFirst b x).SessionLaw :=
  .of_up up (h.hello_of_up up)

theorem State.SessionLaw.arbitrate : s.arbitrate.SessionLaw := by
  unfold State.arbitrate
  split
  · exact h
  · split
    · split
      next o offer =>
        unfold noticeOffer at offer
        split at offer
        next g hello =>
          cases offer
          exact h.beginHello (Option.filter_eq_some_iff.mp hello).1
        next =>
          split at offer
          next e _ =>
            cases offer
            exact h.beginAgain e
          next =>
            obtain ⟨b, x, _, rfl, _⟩ := owedOffer_some offer
            exact h.beginFirst b x (owedOffer_up offer)
      next =>
        unfold chooseData
        split
        · exact h.beginData _ _
        · split
          · exact h.beginData _ _
          · exact h
    · exact h

/-! #### Frame closes -/

theorem State.SessionLaw.completeAdmission (b : BindingNo) : (s.completeAdmission b).SessionLaw := by
  have cases := s.completeAdmission_cases b (s.record b)
  rw [putRecord_record] at cases
  rcases cases with ⟨x, _, e⟩ | ⟨_, _, e⟩ | ⟨x, rest, _, _, _, _, e⟩
  · rw [e]
    exact (h.oweWith b).putRecord b fun _ quiet => ⟨quiet.1, nofun⟩
  · rw [e]
    exact (h.congr (t := { s with tags := { s.tags with waitQueue := s.tags.waitQueue ++ [b] } }) rfl rfl).putRecord b
      fun _ quiet => ⟨quiet.1, nofun⟩
  · rw [e]
    exact ((h.oweWith b).congr (t := { s with
      notice.owed := s.owedWith b
      tags := { s.tags with table := s.tags.table.set x (.held b), freeList := rest } }) rfl rfl).putRecord b
        fun _ quiet => ⟨quiet.1, nofun⟩

theorem State.SessionLaw.createLearnt (b : BindingNo) (c : FrameClose) : (s.createLearnt b c).SessionLaw := by
  have created := (h.updateRecord b (f := fun _ => BindingRecord.learntFrom c (s.feeder c.key.link).defaultClass)
    fun _ => ⟨rfl, nofun⟩).startLease b
  simp only [State.createLearnt]
  split
  · exact created.completeAdmission b
  · exact created

theorem State.SessionLaw.closeUnknown (c : FrameClose) : (s.closeUnknown c).SessionLaw := by
  unfold State.closeUnknown
  split
  · split
    · exact h.createLearnt _ c
    · exact (h.updateFeeder _ _).raisePart _
  · exact h

theorem State.SessionLaw.closeCandidate (b : BindingNo) (c : FrameClose) : (s.closeCandidate b c).SessionLaw := by
  cases good : c.good with
  | false =>
    rw [closeCandidate_bad good]
    exact h.putRecord b fun _ => id
  | true =>
    cases overrun : c.overrun with
    | true =>
      rw [closeCandidate_overran good overrun]
      exact h.putRecord b fun _ => id
    | false =>
      rw [closeCandidate_good good overrun rfl]
      split
      · refine State.SessionLaw.completeAdmission ?_ b
        exact h.putRecord b fun _ => id
      · exact h.putRecord b fun _ => id

theorem State.SessionLaw.appendFrame (b : BindingNo) (x : Tag) (c : FrameClose) : (s.appendFrame b x c).SessionLaw :=
  (h.setTrunk _).updateRecord b

theorem State.SessionLaw.queueFull (b : BindingNo) (c : FrameClose) : (s.queueFull b c).SessionLaw :=
  (((h.returnCells _).updateRecord b).updateFeeder _ _).raisePart _

theorem State.SessionLaw.closeFaulty (b : BindingNo) (c : FrameClose) : (s.closeFaulty b c).SessionLaw := by
  have closed := closeFaulty_putRecord s b (s.record b) c
  rw [putRecord_record] at closed
  rw [closed]
  refine (h.returnCells _).putRecord b fun _ quiet => ?_
  split
  · exact ⟨quiet.1, nofun⟩
  · exact quiet

theorem State.SessionLaw.closeLive (b : BindingNo) (c : FrameClose) : (s.closeLive b c).SessionLaw := by
  have noted : (s.noted b c).SessionLaw := h.putRecord b fun _ => id
  simp only [State.closeLive, renewLease_noteFrame]
  split
  · split
    · split
      · exact noted.appendFrame b _ c
      · exact noted.queueFull b c
    · exact (noted.returnCells _).updateRecord b
  · exact noted.closeFaulty b c

theorem State.SessionLaw.announceRequalified (b : BindingNo) : (s.announceRequalified b).SessionLaw := by
  have announcing (p : NoticePhase) : (s.putRecord b ((s.record b).requalified p)).SessionLaw :=
    h.putRecord b fun _ quiet => ⟨quiet.1, nofun⟩
  rw [announceRequalified_eq]
  split
  · exact announcing .drain
  · exact (announcing .none).oweOrAwait b

/-- R98: a record that requalifies into LIVE at once is announced, so the session is UP. -/
theorem State.SessionLaw.requalify (b : BindingNo) : (s.requalify b).SessionLaw := by
  unfold State.requalify
  simp only
  split
  · split
    next announced => exact h.enterLive b (h.up_of_announced announced)
    · exact h.announceRequalified b
  · split
    · exact ((h.updateRecord b).announceRequalified b).raiseRecord b _
    · exact h.beginRetirement b _

theorem State.SessionLaw.closeRequalifying (b : BindingNo) (c : FrameClose) : (s.closeRequalifying b c).SessionLaw := by
  cases good : c.good with
  | false =>
    rw [closeRequalifying_bad good]
    have closed : (s.putRecord b ((s.record b).failed c (s.classOf b).leaseLength)).SessionLaw := h.putRecord b fun _ => id
    simp only
    split
    · exact closed.beginRetirement b _
    · exact closed
  | true =>
    cases overrun : c.overrun with
    | true =>
      rw [closeRequalifying_overran good overrun]
      exact h.putRecord b fun _ => id
    | false =>
      rw [closeRequalifying_good good overrun]
      have closed : (s.putRecord b ((s.record b).ran c (s.classOf b).leaseLength)).SessionLaw := h.putRecord b fun _ => id
      simp only
      split
      · exact closed.requalify b
      · exact closed

theorem State.SessionLaw.closeRetiring (b : BindingNo) (c : FrameClose) : (s.closeRetiring b c).SessionLaw := by
  have discarded : (s.updateFeeder c.key.link fun l => { l with discarded := satSucc l.discarded }).SessionLaw :=
    h.updateFeeder _ _
  simp only [State.closeRetiring]
  split
  · exact discarded.updateRecord b
  · exact discarded

theorem State.SessionLaw.handleClose (c : FrameClose) : (s.handleClose c).SessionLaw := by
  have returned := h.returnCells c.cells.length
  unfold State.handleClose
  split
  · exact returned.closeUnknown c
  next b _ =>
    split
    · exact h.closeLive b c
    · exact returned.closeCandidate b c
    · simp only [closeTagWait, renewLease_updateRecord, BindingRecord.countBad_eq]
      exact returned.putRecord b fun _ => id
    · simp only [closeAnnouncing, BindingRecord.countBad_eq]
      exact returned.updateRecord b
    · exact returned.closeRequalifying b c
    · exact returned.closeRequalifying b c
    · exact returned.closeRetiring b c
    · exact returned
    · exact returned

theorem State.SessionLaw.takeClose (c : FrameClose) : (s.takeClose c).SessionLaw :=
  ((h.updateFeeder _ _).handleClose c).grantIfReleased s

end

end Sys2Proof.Machine

namespace Sys2Proof.Machine

set_option Elab.async false

/-! ### The session law and the events of the session -/

section
variable {s t : State}

/-! #### Session loss (R152) -/

/-- R152: session loss leaves nothing that an UP session alone may have. -/
theorem State.sessionLoss_outside (s : State) (target : Session) :
    (s.sessionLoss target).notice.window = [] ∧ (s.sessionLoss target).notice.owed = [] ∧
      ∀ b, ((s.sessionLoss target).record b).Unannounced := by
  have records (b : BindingNo) : ((s.sessionLoss target).record b).Unannounced := by
    rw [sessionLoss_record]
    exact BindingRecord.unannounced_atSessionLoss _
  obtain ⟨_, _, _, _, e, _⟩ := s.sessionLoss_frame target
  exact ⟨by rw [e], by rw [e], records⟩

theorem State.sessionLaw_enterResync (s : State) : s.enterResync.SessionLaw :=
  ⟨fun _ => s.sessionLoss_outside .resync, fun _ => .inr s.enterResync_session⟩

theorem State.sessionLaw_closeSession (s : State) : s.closeSession.SessionLaw :=
  ⟨fun _ => s.sessionLoss_outside .closed, nofun⟩

/-! #### The session opened (R149) -/

theorem State.oweNotices_notice (l : List BindingNo) (s : State) :
    ∃ owed, (l.foldl State.oweNotice s).notice = { s.notice with owed := owed } := by
  induction l generalizing s with
  | nil => exact ⟨_, rfl⟩
  | cons b l ih => exact ih (s.oweNotice b)

theorem State.releasesAtHelloAck_notice (s : State) : s.releasesAtHelloAck.notice = s.notice := by
  obtain ⟨_, _, _, _, _, e⟩ := s.releasesAtHelloAck_frame
  rw [e]

theorem State.sessionUp_notice (s : State) :
    ∃ owed, s.sessionUp.notice = { s.notice with session := .up, hello := none, owed := owed } := by
  refine (oweNotices_notice _ _).imp fun owed e => e.trans ?_
  rw [releasesAtHelloAck_notice]

/-- R149: the session is UP and the hello slot empty. -/
theorem State.sessionLaw_openSession (s : State) : s.openSession.SessionLaw := by
  obtain ⟨_, notice⟩ := s.sessionUp_notice
  have up : s.sessionUp.SessionLaw := .of_up (by rw [notice]) (by rw [notice])
  rw [openSession_eq]
  exact (up.grantIfReleased s).raisePart _

/-! #### Changes of the session without a loss (R146, R148) -/

variable (h : s.SessionLaw)
include h

/-- A session that was not UP goes to another state that is not. -/
theorem State.SessionLaw.setSession {x : Session} {g : Option Hello} (other : s.notice.session ≠ .up)
    (hello : g.isSome → x = .opening ∨ x = .resync) :
    { s with notice := { s.notice with session := x, hello := g } }.SessionLaw :=
  ⟨fun _ => h.1 other, hello⟩

theorem State.SessionLaw.exhaustHello {g : Hello} (slot : s.notice.hello = some g) : s.exhaustHello.SessionLaw := by
  have other : s.notice.session ≠ .up := by
    rcases h.2 (by rw [slot]; rfl) with e | e <;> simp [e]
  exact (h.setSession (x := .failed) (g := none) other nofun).raisePart _

theorem State.SessionLaw.closeFailed (failed : s.notice.session = .failed) : s.closeFailed.SessionLaw := by
  have noHello : s.notice.hello.isSome → Session.closed = .opening ∨ Session.closed = .resync := fun present => by
    rcases h.2 present with e | e <;> simp [failed] at e
  exact (h.setSession (by simp [failed]) noHello).raisePart _

theorem State.SessionLaw.trunkOpen (closed : s.notice.session = .closed) :
    ({ s with notice.session := .opening }.issueHello).SessionLaw :=
  ⟨fun _ => h.1 (by simp [closed]), fun _ => .inl rfl⟩

/-! #### Outcomes of a window entry (R157 to R161) -/

theorem State.SessionLaw.removeEntry (q : Byte) : (s.removeEntry q).SessionLaw :=
  h.setWindow fun empty => by rw [empty]; rfl

theorem State.SessionLaw.strandTag (b : BindingNo) (x : Tag) (q : Byte) : (s.strandTag b x q).SessionLaw :=
  h.dropsTags (s.dropsTags_strandTag b x q)

theorem State.SessionLaw.exhaust (e : WindowEntry) : (s.exhaust e).SessionLaw := by
  unfold State.exhaust
  split
  · exact s.sessionLaw_enterResync
  · simp only [exhaustUnbind]
    split
    · exact State.sessionLaw_enterResync _
    · exact (((h.removeEntry _).strandTag _ _ _).updateRecord _).completeRetirement _

theorem State.SessionLaw.makeDue (q : Byte) : (s.makeDue q).SessionLaw := by
  have stopped := h.updateEntry q fun e => { e with timer := none }
  simp only [State.makeDue]
  split
  · exact stopped
  · exact stopped.setDue

theorem State.SessionLaw.timeoutEntry (e : WindowEntry) : (s.timeoutEntry e).SessionLaw := by
  unfold State.timeoutEntry
  split
  · exact h.makeDue _
  · exact h.exhaust e

theorem State.SessionLaw.answerBindPending (b : BindingNo) (up : s.notice.session = .up) :
    (s.answerBindPending b).SessionLaw :=
  State.SessionLaw.oweNotice (h.updateRecord b) b up

/-- R159: a window entry stands in an UP session only. -/
theorem State.SessionLaw.acknowledge {e : WindowEntry} (entry : e ∈ s.notice.window) : (s.acknowledge e).SessionLaw := by
  have up := h.up_of_entry entry
  have removed := h.removeEntry e.seq
  unfold State.acknowledge
  simp only
  split
  · exact (removed.releaseTag _).completeRetirement _
  · split
    · exact removed.enterLive _ up
    · exact .of_up up (h.hello_of_up up)
    · exact removed

theorem State.SessionLaw.refuseBind {e : WindowEntry} (entry : e ∈ s.notice.window) : (s.refuseBind e).SessionLaw := by
  have up := h.up_of_entry entry
  have removed := h.removeEntry e.seq
  unfold State.refuseBind
  simp only
  split
  · exact ((removed.updateRecord _).releaseTag _).completeRetirement _
  · exact (removed.retiring _).oweNotice _ up
  · exact ((removed.updateRecord _).releaseTag _).completeRetirement _
  · exact removed.answerBindPending _ up
  · exact removed

theorem State.SessionLaw.nakEntry {e : WindowEntry} (entry : e ∈ s.notice.window) (r : NakReason) :
    (s.nakEntry e r).SessionLaw := by
  unfold State.nakEntry
  split
  · exact h.refuseBind entry
  · exact h.acknowledge entry
  all_goals exact h.timeoutEntry e

theorem State.SessionLaw.lateReply (confirms : Bool) (q : Byte) : (s.lateReply confirms q).SessionLaw := by
  unfold State.lateReply
  split
  · exact h.releaseTag _
  · exact h.congr rfl rfl

/-! #### The item in transmission, the line and the timers -/

theorem State.SessionLaw.dropDescriptor (d : Descriptor) : (s.dropDescriptor d).SessionLaw := by
  have dropped : ((s.returnCells d.cellCount).dropFromRecord d.binding).SessionLaw := by
    unfold dropFromRecord
    split
    · exact (h.returnCells _).updateRecord _
    · exact h.returnCells _
  exact dropped.congr rfl rfl

theorem State.SessionLaw.cutOff : s.cutOff.SessionLaw := by
  unfold State.cutOff
  refine State.SessionLaw.setTrunk ?_ _
  split
  · split
    · exact (h.setTrunk _).dropDescriptor _
    · exact h
  · exact h

theorem State.SessionLaw.completeSend (d : Descriptor) : (s.completeSend d).SessionLaw := by
  have sent : { s.removeSending.returnCells d.cellCount with
      counters.framesSent := satSucc s.counters.framesSent }.SessionLaw := h.congr rfl rfl
  unfold State.completeSend completeInFlight
  split
  · exact (sent.updateRecord _).moveDrained _
  · exact sent

theorem State.SessionLaw.mapHello (f : Hello → Hello) : { s with notice.hello := s.notice.hello.map f }.SessionLaw :=
  h.setHello (by simp)

theorem State.SessionLaw.startTimer (i : TxItem) : (s.startTimer i).SessionLaw := by
  unfold State.startTimer
  split
  · exact h
  · split
    · exact h
    · exact h.updateEntry _ _
  · exact h.mapHello _

theorem State.SessionLaw.sessionLineDown : s.sessionLineDown.SessionLaw := by
  unfold State.sessionLineDown
  split
  · exact s.sessionLaw_enterResync
  · exact h.mapHello _
  · exact h.mapHello _
  · exact h
  · exact h

theorem State.SessionLaw.advance : s.advance.SessionLaw := by
  refine h.keep rfl ?_ (fun empty => ?_) (fun _ => id) fun _ b quiet => ?_
  · simp [State.advance]
  · simp [State.advance, empty]
  · rw [record_advance]
    exact quiet

theorem State.SessionLaw.expireLease (b : BindingNo) : (s.expireLease b).SessionLaw := by
  unfold State.expireLease
  simp only
  split
  · split
    · exact h.lapse b
    · exact State.SessionLaw.startLease (h.updateRecord b) b
  · split
    · exact h.startLease b
    · exact h.lapse b
  iterate 2
    · split
      · exact h.enterSilent b
      · exact h.beginRetirement b _
  all_goals exact h

/-! #### Sweeps, records and links -/

theorem State.SessionLaw.sweepAct (b : BindingNo) (a : SweepAction) : (s.sweepAct b a).SessionLaw := by
  unfold State.sweepAct
  split
  · exact h.beginRetirement b _
  · exact h.updateRecord b
  · split
    · exact h.goFree b
    · exact h

theorem State.SessionLaw.sweepTest (j : SweepJob) (b : BindingNo) : (s.sweepTest j b).SessionLaw := by
  unfold State.sweepTest
  split
  · refine State.SessionLaw.sweepAct ?_ b _
    exact h.congr rfl rfl
  · exact h

theorem State.SessionLaw.sweepAdvance : s.sweepAdvance.SessionLaw := by
  have moved : { s with sweep.cursor := s.sweep.cursor + 1 }.SessionLaw := h.congr rfl rfl
  have ended : { s with sweep.cursor := s.sweep.cursor + 1, sweep.running := false }.SessionLaw := h.congr rfl rfl
  simp only [State.sweepAdvance]
  split
  · exact ended.raisePart _
  · exact moved

theorem State.SessionLaw.post (r : Result) (data : List Byte) : (s.post r data).SessionLaw := h.congr rfl rfl

theorem State.SessionLaw.refuse (r : Result) : (s.refuse r).SessionLaw := h.congr rfl rfl

theorem State.SessionLaw.postSnapshot (b : BindingNo) (clear : Bool) : (s.postSnapshot b clear).SessionLaw := by
  simp only [State.postSnapshot]
  split
  · exact (h.post _ _).updateRecord b
  · exact h.post _ _

theorem State.SessionLaw.createProvisioned (b : BindingNo) (k : Key) (c : ClassNo) (pinned : Bool) (x : Option Tag) :
    (s.createProvisioned b k c pinned x).SessionLaw := by
  have created := (h.updateRecord b (f := fun _ => BindingRecord.provisionedAs k c pinned) fun _ => ⟨rfl, nofun⟩).startLease b
  simp only [State.createProvisioned]
  split
  next x =>
    rw [holdTag_eq]
    refine State.SessionLaw.putRecord ?_ b fun _ => id
    exact created.congr rfl rfl
  · exact created

theorem State.SessionLaw.provisionWith (k : Key) (c : ClassNo) (pinned : Bool) (x : Option Tag) :
    (s.provisionWith k c pinned x).SessionLaw := by
  unfold State.provisionWith
  split
  iterate 3 exact h.refuse _
  exact (h.createProvisioned _ k c pinned x).post _ _

theorem State.SessionLaw.ackRecord (b : BindingNo) (mask : BitVec 5) : (s.ackRecord b mask).SessionLaw := by
  unfold State.ackRecord
  split
  · exact h.goFree b
  · exact h.updateRecord b

theorem State.SessionLaw.loseLock (l : LinkNo) : (s.loseLock l).SessionLaw := (h.updateFeeder _ _).raisePart _

theorem State.SessionLaw.enableLink (l : LinkNo) : (s.enableLink l).SessionLaw := by
  unfold State.enableLink
  split
  · exact (h.updateFeeder _ _).raisePart _
  · exact h

theorem State.SessionLaw.abandonFrame (l : LinkNo) : (s.abandonFrame l).SessionLaw := by
  unfold State.abandonFrame
  split
  · exact (h.returnCells _).updateFeeder _ _
  · exact h

theorem State.SessionLaw.switchOff (l : LinkNo) : (s.switchOff l).SessionLaw := by
  unfold State.switchOff
  split
  · exact h
  · exact (h.updateFeeder _ _).raisePart _

omit h in
theorem State.SessionLaw.beginRetirements (l : List BindingNo) (c : RetireCause) {s : State} (h : s.SessionLaw) :
    (l.foldl (fun s b => s.beginRetirement b c) s).SessionLaw := by
  induction l generalizing s with
  | nil => exact h
  | cons b l ih => exact ih (h.beginRetirement b c)

theorem State.SessionLaw.disableLink (l : LinkNo) : (s.disableLink l).SessionLaw :=
  State.SessionLaw.beginRetirements _ _ ((h.abandonFrame l).switchOff l)

theorem State.SessionLaw.takeCell (l : LinkNo) (f : OpenFrame) (payload : List Byte) : (s.takeCell l f payload).SessionLaw := by
  simp only [State.takeCell]
  split
  · exact h.updateFeeder _ _
  · split
    · unfold reserveCell
      split
      · exact h.congr rfl rfl
      · exact State.SessionLaw.raisePart ((h.returnCells _).updateFeeder _ _) _
    · exact (h.returnCells _).updateFeeder _ _

end

/-! ### The session law after every command -/

section
variable {s t : State}

/-! #### The feeder family -/

theorem execOpenMarker_sessionLaw {l : LinkNo} {format : Fin 16} {stream : StreamNo} {n : Byte} (law : s.SessionLaw)
    (h : execOpenMarker l format stream n s = .next t) : t.SessionLaw := by
  refine takeEvent_keeps h law ?_
  split
  · split
    · exact law.updateFeeder _ _
    · exact ((law.takeClose _).updateFeeder _ _).arbitrate
  · exact law

theorem execCellMarker_sessionLaw {l : LinkNo} {payload : List Byte} (law : s.SessionLaw)
    (h : execCellMarker l payload s = .next t) : t.SessionLaw := by
  refine takeEvent_keeps h law ?_
  split
  · split
    · exact law
    · exact law.takeCell l _ payload
  · exact law

theorem execFrameClose_sessionLaw {l : LinkNo} {declared : Byte} {crc : BitVec 16} (law : s.SessionLaw)
    (h : execFrameClose l declared crc s = .next t) : t.SessionLaw := by
  refine takeEvent_keeps h law ?_
  split
  · split
    · exact law
    · exact (law.takeClose _).arbitrate
  · exact law

theorem execLineLock_sessionLaw {l : LinkNo} (law : s.SessionLaw) (h : execLineLock l s = .next t) : t.SessionLaw := by
  refine takeEvent_keeps h law ?_
  split
  · exact (law.updateFeeder _ _).raisePart _
  · exact law

theorem execLockLoss_sessionLaw {l : LinkNo} (law : s.SessionLaw) (h : execLockLoss l s = .next t) : t.SessionLaw := by
  refine takeEvent_keeps h law ?_
  split
  · split
    · exact law.loseLock l
    · exact ((law.takeClose _).loseLock l).arbitrate
  · exact law

/-! #### Timers -/

theorem execLeaseExpiry_sessionLaw {b : BindingNo} (law : s.SessionLaw) (h : execLeaseExpiry b s = .next t) :
    t.SessionLaw := by
  refine takeEvent_keeps h law ?_
  split
  · exact ((law.expireLease b).grantIfReleased s).arbitrate
  · exact law

theorem execHoldOffExpiry_sessionLaw (law : s.SessionLaw) (h : execHoldOffExpiry s = .next t) : t.SessionLaw := by
  refine takeEvent_keeps h law (State.SessionLaw.arbitrate (State.SessionLaw.grantEvent ?_))
  exact law.congr rfl rfl

theorem execHelloTimerExpiry_sessionLaw (law : s.SessionLaw) (h : execHelloTimerExpiry s = .next t) : t.SessionLaw := by
  refine takeEvent_keeps h law ?_
  split
  next g slot =>
    split
    · refine State.SessionLaw.arbitrate ?_
      split
      · exact law.setHello (by rw [slot]; rfl)
      · exact law.exhaustHello slot
    · exact law
  · exact law

theorem execNoticeTimerExpiry_sessionLaw {q : Byte} (law : s.SessionLaw) (h : execNoticeTimerExpiry q s = .next t) :
    t.SessionLaw := by
  refine takeEvent_keeps h law ?_
  split
  · split
    · exact (law.timeoutEntry _).arbitrate
    · exact law
  · exact law

theorem execTimebaseTick_sessionLaw (law : s.SessionLaw) (h : execTimebaseTick s = .next t) : t.SessionLaw := by
  refine takeEvent_keeps h law ?_
  rw [s.tick_eq]
  exact law.advance.congr rfl rfl

/-! #### The trunk and its replies -/

theorem execSendCompletion_sessionLaw (law : s.SessionLaw) (h : execSendCompletion s = .next t) : t.SessionLaw := by
  refine takeEvent_keeps h law ?_
  split
  · exact (((law.completeSend _).grantIfReleased s).setTrunk _).arbitrate
  · exact law

theorem execNoticeEnd_sessionLaw (law : s.SessionLaw) (h : execNoticeEnd s = .next t) : t.SessionLaw := by
  refine takeEvent_keeps h law ?_
  split
  · exact ((law.startTimer _).setTrunk _).arbitrate
  · exact ((law.startTimer _).setTrunk _).arbitrate
  · exact law
  · exact law

theorem execLineUp_sessionLaw (law : s.SessionLaw) (h : execLineUp s = .next t) : t.SessionLaw := by
  refine takeEvent_keeps h law ?_
  split
  · refine State.SessionLaw.arbitrate ?_
    exact (law.mapHello _).congr rfl rfl
  · exact law

/-- R153: the record that the cut-off drained moves on in the session as the line-down left it. -/
theorem execLineDown_sessionLaw (law : s.SessionLaw) (h : execLineDown s = .next t) : t.SessionLaw := by
  refine takeEvent_keeps h law ?_
  have down : { s.cutOff with line := .down }.SessionLaw := law.cutOff.congr rfl rfl
  split
  · simp only
    split
    · exact down.sessionLineDown.moveDrained _
    · exact down.sessionLineDown
  · exact law

theorem execCredit_sessionLaw {increment : BitVec 16} (law : s.SessionLaw) (h : execCredit increment s = .next t) :
    t.SessionLaw := by
  refine returnEvent_keeps h law ?_
  split
  · exact (law.setTrunk _).arbitrate
  · exact law

theorem execHelloAck_sessionLaw {number : Byte} (law : s.SessionLaw) (h : execHelloAck number s = .next t) :
    t.SessionLaw := by
  refine returnEvent_keeps h law ?_
  split
  · exact s.sessionLaw_openSession.arbitrate
  · exact law.congr rfl rfl

theorem execAck_sessionLaw {q : Byte} (law : s.SessionLaw) (h : execAck q s = .next t) : t.SessionLaw := by
  refine returnEvent_keeps h law ?_
  split
  next entry => exact ((law.acknowledge (State.windowEntry_mem entry)).grantIfReleased s).arbitrate
  · exact ((law.lateReply _ _).grantIfReleased s).arbitrate

theorem execNak_sessionLaw {q : Byte} {r : NakReason} (law : s.SessionLaw) (h : execNak q r s = .next t) :
    t.SessionLaw := by
  refine returnEvent_keeps h law ?_
  split
  next entry => exact ((law.nakEntry (State.windowEntry_mem entry) r).grantIfReleased s).arbitrate
  · exact ((law.lateReply _ _).grantIfReleased s).arbitrate

theorem execResyncRequest_sessionLaw (law : s.SessionLaw) (h : execResyncRequest s = .next t) : t.SessionLaw := by
  refine returnEvent_keeps h law ?_
  split
  · exact s.sessionLaw_enterResync.arbitrate
  · exact law

/-! #### Sweeps and resets -/

theorem execSweepVisit_sessionLaw (law : s.SessionLaw) (h : execSweepVisit s = .next t) : t.SessionLaw := by
  refine takeEvent_keeps h law ?_
  split
  · split
    · split
      · exact ((law.sweepTest _ _).sweepAdvance.grantIfReleased s).arbitrate
      · exact law
    · exact law
  · exact law

theorem execSweep_sessionLaw (law : s.SessionLaw) (h : execSweep s = .next t) : t.SessionLaw := by
  refine commandEvent_keeps h law ?_
  split
  · exact law.refuse _
  · split
    · exact law.refuse _
    · exact law.congr rfl rfl

theorem execAbortSweep_sessionLaw (law : s.SessionLaw) (h : execAbortSweep s = .next t) : t.SessionLaw := by
  have stopped : { s with sweep.running := false, sweep.aborted := true }.SessionLaw := law.congr rfl rfl
  refine commandEvent_keeps h law ?_
  split
  · exact (stopped.raisePart _).post _ _
  · exact law.post _ _

theorem State.sessionLaw_restarted (s : State) : s.restarted.SessionLaw :=
  ⟨fun _ => ⟨rfl, rfl, fun b => by
    rw [State.record_replicate_free rfl b]
    exact BindingRecord.unannounced_free⟩, nofun⟩

theorem execRestart_sessionLaw (law : s.SessionLaw) (h : execRestart s = .next t) : t.SessionLaw :=
  commandEvent_keeps h law (s.sessionLaw_restarted.post _ _)

theorem execResetAssertion_sessionLaw (law : s.SessionLaw) (h : execResetAssertion s = .next t) : t.SessionLaw := by
  obtain rfl := Host.Outcome.next.inj h
  exact law.congr rfl rfl

theorem execPowerOnReset_sessionLaw (h : execPowerOnReset s = .next t) : t.SessionLaw := by
  obtain rfl := Host.Outcome.next.inj h
  exact State.sessionLaw_reset.congr rfl rfl

/-! #### The host port -/

theorem State.SessionLaw.setHost (law : s.SessionLaw) (x : HostPort) : { s with host := x }.SessionLaw := law.congr rfl rfl

theorem execStatusWindowRead_sessionLaw {address : BitVec 7} {length : Nat} (law : s.SessionLaw)
    (h : execStatusWindowRead address length s = .next t) : t.SessionLaw := by
  refine takeEvent_keeps h law ?_
  simp only
  split
  · exact law.setHost _
  · exact law.setHost _

theorem execCommandWrite_sessionLaw {data : List Byte} (law : s.SessionLaw) (h : execCommandWrite data s = .next t) :
    t.SessionLaw := by
  refine takeEvent_keeps h law ?_
  split
  · exact law.setHost _
  · exact law.setHost _

theorem execGo_sessionLaw {data : List Byte} (law : s.SessionLaw) (h : execGo data s = .next t) : t.SessionLaw := by
  refine takeEvent_keeps h law ?_
  split
  · exact law.setHost _
  · exact law.setHost _

theorem execUnknownCommand_sessionLaw (law : s.SessionLaw) (h : execUnknownCommand s = .next t) : t.SessionLaw := by
  refine takeEvent_keeps h law ?_
  split
  · exact law.refuse _
  · exact law

theorem execStatus_sessionLaw (law : s.SessionLaw) (h : execStatus s = .next t) : t.SessionLaw := by
  refine commandEvent_keeps h law ?_
  split
  · exact law.refuse _
  · simp only
    split
    · exact law.congr rfl rfl
    · exact law.setHost _

/-! #### Records and tags -/

theorem execReadRecord_sessionLaw (law : s.SessionLaw) (h : execReadRecord s = .next t) : t.SessionLaw := by
  refine commandEvent_keeps h law ?_
  split
  · exact law.postSnapshot _ _
  · exact law.refuse _

theorem execLookupKey_sessionLaw (law : s.SessionLaw) (h : execLookupKey s = .next t) : t.SessionLaw := by
  refine commandEvent_keeps h law ?_
  split
  · split
    · exact law.postSnapshot _ _
    · exact law.refuse _
  · exact law.refuse _

theorem execLookupTag_sessionLaw (law : s.SessionLaw) (h : execLookupTag s = .next t) : t.SessionLaw := by
  refine commandEvent_keeps h law ?_
  split
  · split
    · exact law.postSnapshot _ _
    · exact law.refuse _
    · exact law.refuse _
  · exact law.refuse _

theorem execProvision_sessionLaw (law : s.SessionLaw) (h : execProvision s = .next t) : t.SessionLaw := by
  refine commandEvent_keeps h law ?_
  split
  · exact law.provisionWith _ _ _ _
  · exact law.refuse _

theorem execModify_sessionLaw (law : s.SessionLaw) (h : execModify s = .next t) : t.SessionLaw := by
  refine commandEvent_keeps h law ?_
  split
  · split
    · exact law.refuse _
    · exact law.refuse _
    · exact (law.updateRecord _).post _ _
  · exact law.refuse _

theorem execRetire_sessionLaw (law : s.SessionLaw) (h : execRetire s = .next t) : t.SessionLaw := by
  refine commandEvent_keeps h law ?_
  split
  · exact law.refuse _
  · split
    · exact law.refuse _
    · exact law.refuse _
    · exact law.post _ _
    · exact ((law.beginRetirement _ _).grantIfReleased s).arbitrate.post _ _

theorem execReleaseTag_sessionLaw (law : s.SessionLaw) (h : execReleaseTag s = .next t) : t.SessionLaw := by
  refine commandEvent_keeps h law ?_
  split
  · exact law.refuse _
  · split
    · exact ((law.releaseTag _).grantIfReleased s).arbitrate.post _ _
    · exact law.refuse _
    · exact law.refuse _

/-! #### Attention and settings -/

theorem execNextAttention_sessionLaw (law : s.SessionLaw) (h : execNextAttention s = .next t) : t.SessionLaw := by
  refine commandEvent_keeps h law ?_
  split
  · exact law.post _ _
  · split
    · exact law.congr rfl rfl
    · exact law.post _ _

theorem execAckAttention_sessionLaw (law : s.SessionLaw) (h : execAckAttention s = .next t) : t.SessionLaw := by
  refine commandEvent_keeps h law ?_
  split
  · split
    · exact law.congr rfl rfl
    · exact law.refuse _
  · split
    · exact (law.ackRecord _ _).post _ _
    · exact law.refuse _

theorem execSetClass_sessionLaw (law : s.SessionLaw) (h : execSetClass s = .next t) : t.SessionLaw := by
  refine commandEvent_keeps h law ?_
  split
  · exact law.refuse _
  · exact law.congr rfl rfl

theorem execSetLink_sessionLaw (law : s.SessionLaw) (h : execSetLink s = .next t) : t.SessionLaw := by
  refine commandEvent_keeps h law ?_
  split
  · refine State.SessionLaw.post ?_ _ _
    split
    · exact (law.updateFeeder _ _).enableLink _
    · exact (((law.updateFeeder _ _).disableLink _).grantIfReleased s).arbitrate
  · exact law.refuse _

theorem execReadLink_sessionLaw (law : s.SessionLaw) (h : execReadLink s = .next t) : t.SessionLaw := by
  refine commandEvent_keeps h law ?_
  split
  · simp only
    split
    · exact (law.post _ _).updateFeeder _ _
    · exact law.post _ _
  · exact law.refuse _

theorem execSetTiming_sessionLaw (law : s.SessionLaw) (h : execSetTiming s = .next t) : t.SessionLaw := by
  refine commandEvent_keeps h law ?_
  split
  · refine (State.SessionLaw.arbitrate (State.SessionLaw.grantEvent ?_)).post _ _
    exact law.keep rfl rfl id (fun _ => id) fun _ _ => id
  · exact law.refuse _

theorem execSetAttentionEnables_sessionLaw (law : s.SessionLaw) (h : execSetAttentionEnables s = .next t) :
    t.SessionLaw := by
  refine commandEvent_keeps h law ?_
  split
  · exact law.congr rfl rfl
  · exact law.refuse _

/-! #### The session -/

theorem execTrunkOpen_sessionLaw (law : s.SessionLaw) (h : execTrunkOpen s = .next t) : t.SessionLaw := by
  refine commandEvent_keeps h law ?_
  split
  next closed => exact (((law.trunkOpen closed).raisePart _).arbitrate).post _ _
  all_goals exact law.refuse _

theorem execTrunkClose_sessionLaw (law : s.SessionLaw) (h : execTrunkClose s = .next t) : t.SessionLaw := by
  refine commandEvent_keeps h law ?_
  split
  · exact law.post _ _
  next failed => exact (law.closeFailed failed).post _ _
  all_goals exact s.sessionLaw_closeSession.arbitrate.post _ _

/-! #### Every command -/

theorem exec_sessionLaw {c : Instr} (law : s.SessionLaw) (h : exec c s = .next t) : t.SessionLaw := by
  cases c with
  | openMarker => exact execOpenMarker_sessionLaw law h
  | cellMarker => exact execCellMarker_sessionLaw law h
  | frameClose => exact execFrameClose_sessionLaw law h
  | lineLock => exact execLineLock_sessionLaw law h
  | lockLoss => exact execLockLoss_sessionLaw law h
  | leaseExpiry => exact execLeaseExpiry_sessionLaw law h
  | holdOffExpiry => exact execHoldOffExpiry_sessionLaw law h
  | sendCompletion => exact execSendCompletion_sessionLaw law h
  | noticeEnd => exact execNoticeEnd_sessionLaw law h
  | lineUp => exact execLineUp_sessionLaw law h
  | lineDown => exact execLineDown_sessionLaw law h
  | credit => exact execCredit_sessionLaw law h
  | helloAck => exact execHelloAck_sessionLaw law h
  | ack => exact execAck_sessionLaw law h
  | nak => exact execNak_sessionLaw law h
  | resyncRequest => exact execResyncRequest_sessionLaw law h
  | helloTimerExpiry => exact execHelloTimerExpiry_sessionLaw law h
  | noticeTimerExpiry => exact execNoticeTimerExpiry_sessionLaw law h
  | sweepVisit => exact execSweepVisit_sessionLaw law h
  | statusWindowRead => exact execStatusWindowRead_sessionLaw law h
  | commandWrite => exact execCommandWrite_sessionLaw law h
  | go data => exact execGo_sessionLaw (data := data) law h
  | unknownCommand => exact execUnknownCommand_sessionLaw law h
  | status => exact execStatus_sessionLaw law h
  | readRecord => exact execReadRecord_sessionLaw law h
  | lookupKey => exact execLookupKey_sessionLaw law h
  | lookupTag => exact execLookupTag_sessionLaw law h
  | provision => exact execProvision_sessionLaw law h
  | modify => exact execModify_sessionLaw law h
  | retire => exact execRetire_sessionLaw law h
  | releaseTag => exact execReleaseTag_sessionLaw law h
  | nextAttention => exact execNextAttention_sessionLaw law h
  | ackAttention => exact execAckAttention_sessionLaw law h
  | setClass => exact execSetClass_sessionLaw law h
  | setLink => exact execSetLink_sessionLaw law h
  | readLink => exact execReadLink_sessionLaw law h
  | setTiming => exact execSetTiming_sessionLaw law h
  | setAttentionEnables => exact execSetAttentionEnables_sessionLaw law h
  | trunkOpen => exact execTrunkOpen_sessionLaw law h
  | trunkClose => exact execTrunkClose_sessionLaw law h
  | sweep => exact execSweep_sessionLaw law h
  | abortSweep => exact execAbortSweep_sessionLaw law h
  | restart => exact execRestart_sessionLaw law h
  | resetAssertion => exact execResetAssertion_sessionLaw law h
  | powerOnReset => exact execPowerOnReset_sessionLaw h
  | timebaseTick => exact execTimebaseTick_sessionLaw law h
  | unrecognisedMarker | ignoredWrite => exact takeEvent_keeps (f := id) h law law
  | discardedReturnMessage => exact returnEvent_keeps (f := id) h law law

end

/-- Settles O55: what an UP session alone may have is added in an UP session only, and session loss takes all of it. -/
theorem sessionLawKept : Obligations.SessionLawKept := by
  intro s t law h
  unfold step at h
  split at h
  · obtain rfl := Host.Outcome.next.inj h
    exact law
  next c rest _ => exact exec_sessionLaw (s := { s with pending := rest }) (law.congr rfl rfl) h

end Sys2Proof.Machine

namespace Sys2Proof.Machine

set_option Elab.async false

/-! ### The end of a retirement, from a record just written (R77, R119) -/

section
variable {s : State} {b : BindingNo} {r : BindingRecord}

theorem State.putRecord_releaseAndComplete_untagged (h : r.tag = none) :
    (s.putRecord b r).releaseAndComplete b = s.putRecord b (s.retiredOrFree r) := by
  rw [releaseAndComplete_untagged (by rw [record_putRecord_self, h]), record_putRecord_self, putRecord_putRecord]
  rfl

theorem State.putRecord_releaseAndComplete_tagged {x : Tag} (h : r.tag = some x) (held : s.tagEntry x = .held b) :
    (s.putRecord b r).releaseAndComplete b =
      { s with tags := s.tags.releasing x }.putRecord b (s.retiredOrFree { r with tag := none }) := by
  have tag : ((s.putRecord b r).record b).tag = some x := by rw [record_putRecord_self, h]
  rw [releaseAndComplete_tagged tag held, record_putRecord_self]
  exact putRecord_putRecord { s with tags := s.tags.releasing x } b r _

end

/-! ### The courses of retirement (R109 to R116) -/

section
variable {s : State} {b : BindingNo} {c : RetireCause}

/-- R110, R113: a record that completes at once, its cause set. -/
def BindingRecord.caused (r : BindingRecord) (c : RetireCause) : BindingRecord := { r with cause := some c }

theorem State.retireBeforeAnnouncing_eq (s : State) (b : BindingNo) (c : RetireCause) : s.retireBeforeAnnouncing b c =
    ({ s with tags.waitQueue := s.tags.waitQueue.erase b }.putRecord b ((s.record b).caused c)).releaseAndComplete b :=
  rfl

theorem State.beginRetirement_waiting (state : (s.record b).state = .candidate ∨ (s.record b).state = .tagWait) :
    s.beginRetirement b c = s.retireBeforeAnnouncing b c := by
  rcases state with state | state <;> simp only [beginRetirement, state]

theorem State.beginRetirement_announcing (state : (s.record b).state = .announcing) :
    s.beginRetirement b c = s.retireAnnouncing b c := by simp only [beginRetirement, state]

/-- R111 to R113: an ANNOUNCING record whose notice is not merely owed keeps its phase. -/
theorem State.retireAnnouncing_outstanding (phase : (s.record b).phase = .outstanding) : s.retireAnnouncing b c =
    s.putRecord b { (s.record b).atRetirement c with bindPending := true } := by
  simp only [retireAnnouncing, phase]
  rfl

theorem State.retireAnnouncing_pending (phase : (s.record b).phase = .drain ∨ (s.record b).phase = .awaitSession) :
    s.retireAnnouncing b c = s.putRecord b ((s.record b).atRetirement c) := by
  rcases phase with phase | phase <;> simp only [retireAnnouncing, phase] <;> rfl

theorem State.retireAnnouncing_owed (phase : (s.record b).phase = .owed) : s.retireAnnouncing b c =
    if (s.record b).announced then s.putRecord b ((s.record b).atRetirement c)
    else ({ s with notice.owed := s.notice.owed.erase b }.putRecord b ((s.record b).caused c)).releaseAndComplete b := by
  simp only [retireAnnouncing, phase]
  rfl

/-- R115: the fields of a record that forwarded, on entry to RETIRING. -/
def BindingRecord.draining (r : BindingRecord) (c : RetireCause) : BindingRecord :=
  { r.atRetirement c with consecutiveBad := 0, phase := .drain }

theorem State.beginRetirement_forwarding
    (state : (s.record b).state = .live ∨ (s.record b).state = .suspended ∨ (s.record b).state = .silent) :
    s.beginRetirement b c = (s.putRecord b ((s.record b).draining c)).moveDrained b := by
  rcases state with state | state | state <;> simp only [beginRetirement, state] <;> rfl

/-- R116: with nothing in flight the drain end follows at once. -/
theorem State.moveDrained_draining (flight : (s.record b).inFlight = 0) :
    (s.putRecord b ((s.record b).draining c)).moveDrained b =
      if (s.record b).announced then (s.putRecord b ((s.record b).draining c)).oweNotice b
      else if s.notice.session = .up then (s.putRecord b ((s.record b).draining c)).releaseAndComplete b
      else s.putRecord b { (s.record b).draining c with phase := .awaitSession } := by
  have empty : ((s.record b).draining c).inFlight = 0 := flight
  rw [moveDrained, record_putRecord_self, if_pos ⟨rfl, empty⟩]
  show (s.putRecord b ((s.record b).draining c)).drainEnd b = _
  rw [drainEnd, record_putRecord_self, updateRecord_eq, record_putRecord_self, putRecord_putRecord]
  rfl

end

/-- Settles O20: one course for each state, its end at `State.releaseAndComplete` where the record completes at once. -/
theorem retirementCourse : Obligations.RetirementCourse := by
  intro s b cause r t caused at'
  refine ⟨fun state => ?_, fun state => ?_, fun state => ?_, fun state => ?_⟩
  · have state' : (s.record b).state = .free ∨ (s.record b).state = .retiring ∨ (s.record b).state = .retired := state
    show s.beginRetirement b cause = s
    rcases state' with state | state | state <;> simp only [State.beginRetirement, state]
  · have course : t = s.retireBeforeAnnouncing b cause := State.beginRetirement_waiting state
    rw [course, State.retireBeforeAnnouncing_eq]
    exact ⟨fun tag => State.putRecord_releaseAndComplete_untagged tag,
      fun x tag held => State.putRecord_releaseAndComplete_tagged tag held⟩
  · have course : t = s.retireAnnouncing b cause := State.beginRetirement_announcing state
    rw [course]
    refine ⟨State.retireAnnouncing_outstanding, State.retireAnnouncing_pending, fun phase announced => ?_,
      fun x phase announced tag held => ?_⟩
    · rw [State.retireAnnouncing_owed phase]
      exact if_pos announced
    · rw [State.retireAnnouncing_owed phase]
      exact (if_neg (Bool.eq_false_iff.mp announced)).trans (State.putRecord_releaseAndComplete_tagged tag held)
  · have course : t = (s.putRecord b (r.draining cause)).moveDrained b := State.beginRetirement_forwarding state
    rw [course]
    refine ⟨fun flight => State.moveDrained_of_not fun h => ?_, fun flight announced => ?_,
      fun flight announced session => ?_, fun x flight announced session tag held => ?_⟩
    · rw [State.record_putRecord_self] at h
      exact flight.ne' h.2
    · rw [State.moveDrained_draining flight]
      refine (if_pos announced).trans ?_
      rw [State.oweNotice_eq, State.record_putRecord_self]
      exact State.putRecord_putRecord { s with notice.owed := s.notice.owed ++ [b] } b _ _
    · rw [State.moveDrained_draining flight]
      exact (if_neg (Bool.eq_false_iff.mp announced)).trans (if_neg session)
    · rw [State.moveDrained_draining flight]
      exact ((if_neg (Bool.eq_false_iff.mp announced)).trans (if_pos session)).trans
        (State.putRecord_releaseAndComplete_tagged tag held)

end Sys2Proof.Machine

namespace Sys2Proof.Machine

set_option Elab.async false

/-! ### SWEEP and ABORT SWEEP (R124, R127, R192) -/

section
variable {s : State}

theorem anyOr_of_toNat {n : Nat} {x : Byte} {o : Option (Fin n)} (small : n ≤ 255)
    (h : x.toNat = o.elim 255 Fin.val) : anyOr n x = some o := by
  cases o with
  | none => exact if_pos (BitVec.eq_of_toNat_eq h)
  | some i =>
    have named : x.toNat = i.val := h
    have notAny : x ≠ 0xFF#8 := fun e => by
      rw [e] at named
      exact (i.isLt.trans_le small).ne' named
    rw [anyOr, if_neg notAny, below_of_toNat named]
    rfl

/-- Table 11-E: the number of a sweep action. -/
def SweepAction.number : SweepAction → Nat
  | .retire => 1
  | .clearCounters => 2
  | .freeReports => 3

theorem actionOperand_of_toNat {x : Byte} {a : SweepAction} (h : x.toNat = a.number) : actionOperand x = some a := by
  have x_eq : x = BitVec.ofNat 8 a.number := by rw [← h, BitVec.ofNat_toNat, BitVec.setWidth_eq]
  rw [x_eq]
  cases a <;> rfl

/-- R192: the operands of SWEEP read. -/
theorem State.sweepOperands_of {j : SweepJob} (link : s.op 1 = j.link.elim 255 Fin.val)
    (cls : s.op 2 = j.cls.elim 255 Fin.val) (states : s.op 3 * 256 + s.op 4 = j.states.toNat) (notEmpty : j.states ≠ 0#16)
    (inSet : j.states &&& 0xFE01#16 = 0#16) (pinned : s.op 5 = flagOp j.pinnedIncluded) (action : s.op 6 = j.action.number) :
    s.sweepOperands = some j := by
  have word : word16 (s.operand 3) (s.operand 4) = j.states := BitVec.eq_of_toNat_eq ((word16_toNat _ _).trans states)
  have set : stateSetOperand j.states = some j.states := if_pos ⟨notEmpty, inSet⟩
  have l : anyOr 8 (s.operand 1) = some j.link := anyOr_of_toNat (by decide) link
  have c : anyOr 4 (s.operand 2) = some j.cls := anyOr_of_toNat (by decide) cls
  have p : flagOperand (s.operand 5) = some j.pinnedIncluded := flagOperand_of_toNat pinned
  have a : actionOperand (s.operand 6) = some j.action := actionOperand_of_toNat action
  rw [sweepOperands, l, c, word, set, p, a]
  rfl

/-- R124: SWEEP is BUSY while a sweep runs. -/
theorem execSweep_busy {j : SweepJob} (h : s.inHand 0x12#8) (job : s.sweepOperands = some j)
    (running : s.sweep.running = true) : exec .sweep s = .next (s.refuse .busy) := by
  show execSweep s = _
  rw [execSweep, commandEvent_inHand h, job]
  exact congrArg Host.Outcome.next (if_pos running)

/-- R124: SWEEP begins a sweep at cursor 0, with counts 0. -/
theorem execSweep_begins {j : SweepJob} (h : s.inHand 0x12#8) (job : s.sweepOperands = some j)
    (idle : s.sweep.running = false) : exec .sweep s =
      .next ((s.withSweep ⟨true, some j, 0, 0, 0, false⟩).post .accepted [0x01#8, 0x00#8, 0x00#8, 0x00#8]) := by
  show execSweep s = _
  rw [execSweep, commandEvent_inHand h, job]
  exact congrArg Host.Outcome.next (if_neg (Bool.eq_false_iff.mp idle))

/-- R127: a sweep aborted. -/
def State.sweepAborted (s : State) : State := { s with
  sweep := { s.sweep with running := false, aborted := true }
  attention := { s.attention with part := s.partAfter 0x10#6 } }

theorem execAbortSweep_running (h : s.inHand 0x13#8) (running : s.sweep.running = true) : exec .abortSweep s =
    .next (s.sweepAborted.post .ok
      [0x02#8, byteOf s.sweep.cursor, byteOf s.sweep.matched, byteOf s.sweep.acted]) := by
  show execAbortSweep s = _
  rw [execAbortSweep, commandEvent_inHand h, if_pos running, State.raisePart_eq]
  rfl

theorem State.sweepBytes_idle (idle : s.sweep.running = false) : s.sweepBytes =
    [if s.sweep.aborted then 0x02#8 else 0x00#8, byteOf s.sweep.cursor, byteOf s.sweep.matched, byteOf s.sweep.acted] := by
  rw [sweepBytes, idle]
  cases s.sweep.aborted <;> rfl

theorem execAbortSweep_idle (h : s.inHand 0x13#8) (idle : s.sweep.running = false) :
    exec .abortSweep s = .next (s.post .already s.sweepBytes) := by
  show execAbortSweep s = _
  rw [execAbortSweep, commandEvent_inHand h, if_neg (Bool.eq_false_iff.mp idle)]

end

/-- Settles O37: the operands of SWEEP read, and each command posts its response by whether a sweep runs. -/
theorem sweepCommands : Obligations.SweepCommands := by
  refine fun s => ⟨fun j h link cls states notEmpty inSet pinned action => ?_, fun h => ⟨fun running => ?_, fun idle => ?_⟩⟩
  · have link' : s.op 1 = j.link.elim 255 Fin.val := by rw [link]; cases j.link <;> rfl
    have cls' : s.op 2 = j.cls.elim 255 Fin.val := by rw [cls]; cases j.cls <;> rfl
    have action' : s.op 6 = j.action.number := by rw [action]; cases j.action <;> rfl
    have job : s.sweepOperands = some j := State.sweepOperands_of link' cls' states notEmpty inSet pinned action'
    exact ⟨fun running => State.refusedWith_of (execSweep_busy h job running),
      fun idle => State.posted (execSweep_begins h job idle) rfl (Nat.le_of_ble_eq_true rfl)⟩
  · exact State.posted (execAbortSweep_running h running) rfl (Nat.le_of_ble_eq_true rfl)
  · have run := execAbortSweep_idle h idle
    rw [State.sweepBytes_idle idle] at run
    exact State.posted run rfl (Nat.le_of_ble_eq_true rfl)

end Sys2Proof.Machine

namespace Sys2Proof.Machine

set_option Elab.async false

/-! ### The test of a sweep visit (R125, R126) -/

section
variable {s : State} {j : SweepJob} {b : BindingNo}

/-- R125: the four conditions of a filter, and that a FREE record matches none. -/
theorem SweepJob.matches_iff (j : SweepJob) (r : BindingRecord) : j.matches r = true ↔
    r.state ≠ .free ∧ j.states.getLsbD r.state.code = true ∧ (∀ l, j.link = some l → r.key.link = l) ∧
      (∀ c, j.cls = some c → r.cls = c) ∧ (r.pinned = true → j.pinnedIncluded = true) := by
  unfold SweepJob.matches
  cases j.link <;> cases j.cls <;> cases r.pinned <;> simp [and_assoc]

theorem State.sweepTest_miss (miss : ¬j.matches (s.record b) = true) : s.sweepTest j b = s := if_neg miss

/-- R125: a record that matches is counted, and the action is taken. -/
theorem State.sweepTest_hit {acts : Bool} (hit : j.matches (s.record b) = true)
    (h : j.action.acts (s.record b).state = acts) :
    s.sweepTest j b = (s.withSweep (s.sweep.counting acts)).sweepAct b j.action := by
  rw [sweepTest, if_pos hit, h]
  rfl

/-- R126: RETIRE acts on every state from which retirement begins. -/
theorem SweepAction.retire_acts_iff (x : RecordState) :
    SweepAction.retire.acts x = true ↔ x ≠ .free ∧ x ≠ .retiring ∧ x ≠ .retired := by cases x <;> simp [acts, RecordState.active]

/-! ### The rest of the visit (R125, R127) -/

/-- R125, R127: the cursor past record `b`, and the end of the sweep past record 47. -/
def State.sweptPast (s : State) (b : BindingNo) : State := { s with
  sweep := { s.sweep with cursor := b.val + 1, running := decide (b.val ≠ 47) }
  attention := { s.attention with part := if b.val = 47 then s.partAfter 0x10#6 else s.attention.part } }

theorem State.sweepAdvance_sweptPast (running : s.sweep.running = true) (cursor : s.sweep.cursor = b.val) :
    s.sweepAdvance = s.sweptPast b := by
  rw [sweepAdvance_eq, SweepEngine.advanced, running, cursor, sweptPast]
  by_cases last : b.val = 47
  · simp only [last, Config.sweepEnd, if_true, raisePart_eq, ne_eq, not_true, decide_false]
    rfl
  · have notEnd : ¬b.val + 1 = Config.sweepEnd := fun e => last (Nat.succ.inj e)
    simp only [last, notEnd, if_false, ne_eq, not_false_eq_true, decide_true]
    rfl

/-- R125: a visit of record `b` tests it, moves past it, grants and ends with the arbiter's choice. -/
theorem execSweepVisit_at (awake : s.awake) (running : s.sweep.running = true) (job : s.sweep.job = some j)
    (cursor : s.sweep.cursor = b.val) : exec .sweepVisit s =
      .next (((s.sweepTest j b).sweepAdvance).grantIfReleased s).arbitrate := by
  have inTable : s.sweep.cursor < 48 := cursor ▸ b.isLt
  have visited : (⟨s.sweep.cursor, inTable⟩ : BindingNo) = b := Fin.ext cursor
  show execSweepVisit s = _
  rw [execSweepVisit, takeEvent_awake awake, if_pos running, job]
  exact congrArg Host.Outcome.next ((dif_pos inTable).trans (by rw [visited]))

/-- The visit's test left the sweep running at `b`. -/
theorem execSweepVisit_of_test {u : State} (awake : s.awake) (running : s.sweep.running = true)
    (job : s.sweep.job = some j) (cursor : s.sweep.cursor = b.val) (test : s.sweepTest j b = u)
    (running' : u.sweep.running = true) (cursor' : u.sweep.cursor = b.val) :
    exec .sweepVisit s = .next ((u.sweptPast b).grantIfReleased s).arbitrate := by
  rw [execSweepVisit_at awake running job cursor, test, State.sweepAdvance_sweptPast running' cursor']

/-- A visit that leaves the free list as it is grants nothing. -/
theorem execSweepVisit_of_quiet_test {u : State} (awake : s.awake) (running : s.sweep.running = true)
    (job : s.sweep.job = some j) (cursor : s.sweep.cursor = b.val) (test : s.sweepTest j b = u)
    (sweep : u.sweep.running = s.sweep.running ∧ u.sweep.cursor = s.sweep.cursor)
    (freeList : u.tags.freeList = s.tags.freeList) : exec .sweepVisit s = .next (u.sweptPast b).arbitrate := by
  have kept : (u.sweptPast b).tags.freeList.length ≤ s.tags.freeList.length := (congrArg List.length freeList).le
  rw [execSweepVisit_of_test awake running job cursor test (sweep.1.trans running) (sweep.2.trans cursor),
    State.grantIfReleased_of_le kept]

theorem State.beginRetirement_sweep (s : State) (b : BindingNo) (c : RetireCause) :
    (s.beginRetirement b c).sweep = s.sweep := by
  obtain ⟨_, _, _, h⟩ := s.beginRetirement_frame b c
  rw [h]

/-- R126: the visit of a record whose retirement begins. -/
theorem execSweepVisit_retires (awake : s.awake) (running : s.sweep.running = true) (job : s.sweep.job = some j)
    (cursor : s.sweep.cursor = b.val)
    (test : s.sweepTest j b = (s.withSweep (s.sweep.counting true)).beginRetirement b .sweep) : exec .sweepVisit s =
      .next ((((s.withSweep (s.sweep.counting true)).beginRetirement b .sweep).sweptPast b).grantIfReleased s).arbitrate := by
  refine execSweepVisit_of_test awake running job cursor test ?_ ?_ <;> rw [State.beginRetirement_sweep]
  · exact running
  · exact cursor

end

/-- Settles O36: the test of the record at the cursor by `SweepJob.matches_iff`, then each action where it applies, of which
only a retirement can release a tag. -/
theorem sweepVisitTestsAndActs : Obligations.SweepVisitTestsAndActs := by
  intro s j b awake running job cursor r hit tested advanced
  have quiet {u : State} := execSweepVisit_of_quiet_test (u := u) awake running job cursor
  refine ⟨fun miss => ?_, fun hit => ?_⟩
  · have missed : ¬j.matches (s.record b) = true := fun h => miss ((j.matches_iff _).mp h)
    exact quiet (State.sweepTest_miss missed) ⟨rfl, rfl⟩ rfl
  · have test {acts : Bool} := State.sweepTest_hit (s := s) (acts := acts) ((j.matches_iff _).mpr hit)
    refine ⟨fun action state => ?_, fun action notRetiring notRetired => ?_, fun action => ?_, fun action state => ?_,
      fun action state => ?_⟩
    all_goals rw [action] at test
    · have spares : SweepAction.retire.acts r.state = false := by rcases state with state | state <;> rw [state] <;> rfl
      have nothing := (retirementCourse (s.withSweep (s.sweep.counting false)) b .sweep).1 (.inr state)
      exact quiet ((test spares).trans nothing) ⟨rfl, rfl⟩ rfl
    · have acts : SweepAction.retire.acts r.state = true :=
        (SweepAction.retire_acts_iff _).mpr ⟨hit.1, notRetiring, notRetired⟩
      exact execSweepVisit_retires awake running job cursor (test acts)
    · exact quiet (test rfl) ⟨rfl, rfl⟩ rfl
    · have acts : SweepAction.freeReports.acts r.state = true := beq_iff_eq.mpr state
      exact quiet ((test acts).trans (if_pos state)) ⟨rfl, rfl⟩ rfl
    · have spares : SweepAction.freeReports.acts r.state = false := beq_eq_false_iff_ne.mpr state
      exact quiet ((test spares).trans (if_neg state)) ⟨rfl, rfl⟩ rfl

end Sys2Proof.Machine

namespace Sys2Proof.Machine

set_option Elab.async false

/-! ### The attention set (R169, R174) -/

section
variable {s : State} {b : BindingNo}

theorem State.attentionSet_nodup (s : State) : s.attentionSet.Nodup := (List.nodup_finRange 48).filter _

theorem State.mem_attentionSet : b ∈ s.attentionSet ↔ (s.record b).reasons ≠ 0#5 := by
  simp [attentionSet, allBindings]

/-- R190: the set's size is the number of records that have a reason. -/
theorem State.attentionSet_length (s : State) [DecidablePred fun b => (s.record b).reasons ≠ 0#5] :
    s.attentionSet.length = (Finset.univ.filter fun b => (s.record b).reasons ≠ 0#5).card := by
  rw [← List.toFinset_card_of_nodup s.attentionSet_nodup]
  refine congrArg Finset.card (Finset.ext fun b => ?_)
  rw [List.mem_toFinset, mem_attentionSet, Finset.mem_filter_univ]

/-- R174: the NEXT cursor's search, as two searches of the records in ascending order. -/
theorem State.nextInSet_eq (s : State) : s.nextInSet =
    (allBindings.find? fun b => (s.record b).reasons != 0#5 && decide (s.attention.cursor ≤ b)).or
      (allBindings.find? fun b => (s.record b).reasons != 0#5) := by
  rw [nextInSet, attentionSet, List.find?_filter, List.head?_filter]
  simp only [Bool.decide_and, Bool.decide_eq_true]

theorem State.nextInSet_of_above (has : (s.record b).reasons ≠ 0#5) (above : s.attention.cursor ≤ b)
    (first : ∀ x, s.attention.cursor ≤ x → x < b → ¬(s.record x).reasons ≠ 0#5) : s.nextInSet = some b := by
  have found := allBindings_find? (b := b) (p := fun b => (s.record b).reasons != 0#5 && decide (s.attention.cursor ≤ b))
  rw [nextInSet_eq, found.mpr ⟨by simp [has, above], fun x lt => ?_⟩, Option.some_or]
  by_cases reached : s.attention.cursor ≤ x
  · simp [not_not.mp (first x reached lt)]
  · simp [reached]

theorem State.nextInSet_of_wrap (has : (s.record b).reasons ≠ 0#5)
    (first : ∀ x, s.attention.cursor ≤ x ∨ x < b → ¬(s.record x).reasons ≠ 0#5) : s.nextInSet = some b := by
  have none_above : allBindings.find? (fun b => (s.record b).reasons != 0#5 && decide (s.attention.cursor ≤ b)) = none := by
    refine List.find?_eq_none.mpr fun x _ h => ?_
    rw [Bool.and_eq_true, bne_iff_ne, decide_eq_true_iff] at h
    exact first x (.inl h.2) h.1
  rw [nextInSet_eq, none_above, Option.none_or]
  exact allBindings_find?.mpr ⟨bne_iff_ne.mpr has, fun x lt => by simp [not_not.mp (first x (.inr lt))]⟩

theorem State.nextInSet_of_none (none : ∀ b, ¬(s.record b).reasons ≠ 0#5) : s.nextInSet = Option.none := by
  rw [nextInSet, List.eq_nil_iff_forall_not_mem.mpr fun b h => none b (mem_attentionSet.mp h)]
  rfl

/-! ### NEXT ATTENTION and ACK ATTENTION (R120, R174, R175, R190) -/

theorem byteOf_toNat {n : Nat} (x : BitVec n) : byteOf x.toNat = x.setWidth 8 := BitVec.ofNat_toNat ..

/-- R174: "47 followed by 0". -/
theorem cursor_after (b : BindingNo) : (b + 1).val = if b.val = 47 then 0 else b.val + 1 := by
  rw [Fin.val_add_one]
  simp only [Fin.ext_iff, Fin.val_last]

/-- R174: a part-level reason comes first. -/
theorem execNextAttention_part (h : s.inHand 0x09#8) (part : s.attention.part ≠ 0#6) :
    exec .nextAttention s = .next (s.post .ok s.partForm) := by
  show execNextAttention s = _
  rw [execNextAttention, commandEvent_inHand h, if_pos part]

/-- R174: no part-level reason, and a record's turn. -/
theorem execNextAttention_record (h : s.inHand 0x09#8) (part : s.attention.part = 0#6) (next : s.nextInSet = some b) :
    exec .nextAttention s =
      .next ({ s with attention.cursor := b + 1 }.post .ok (snapshotBytes b (s.record b) 0x02#8)) := by
  show execNextAttention s = _
  rw [execNextAttention, commandEvent_inHand h, if_neg (not_not.mpr part), next]

/-- R174: nothing is pending. -/
theorem execNextAttention_none (h : s.inHand 0x09#8) (part : s.attention.part = 0#6) (next : s.nextInSet = none) :
    exec .nextAttention s = .next (s.post .ok []) := by
  show execNextAttention s = _
  rw [execNextAttention, commandEvent_inHand h, if_neg (not_not.mpr part), next]

/-- R190: the operands of ACK ATTENTION of PART read. -/
theorem execAckAttention_part (h : s.inHand 0x0A#8) (h1 : s.op 1 = 255) (h2 : s.op 2 < 64) : exec .ackAttention s =
    .next ((s.ackPart (BitVec.ofNat 6 (s.op 2))).post .ok
      [0xFF#8, byteOf (s.attention.part &&& ~~~BitVec.ofNat 6 (s.op 2)).toNat, 0x00#8]) := by
  have target : s.operand 1 = 0xFF#8 := BitVec.eq_of_toNat_eq h1
  have mask : partMaskOperand (s.operand 2) = some (BitVec.ofNat 6 (s.op 2)) := partMaskOperand_of_lt h2
  show execAckAttention s = _
  rw [execAckAttention, commandEvent_inHand h, if_pos target, mask]
  rfl

/-- R190: the operands of ACK ATTENTION of a record read. -/
theorem execAckAttention_record (h : s.inHand 0x0A#8) (h1 : s.op 1 = b.val) (h2 : s.op 2 < 32) : exec .ackAttention s =
    .next ((s.ackRecord b (BitVec.ofNat 5 (s.op 2))).post .ok [byteOf b.val,
      byteOf ((s.ackRecord b (BitVec.ofNat 5 (s.op 2))).record b).reasons.toNat,
      byteOf ((s.ackRecord b (BitVec.ofNat 5 (s.op 2))).record b).state.code]) := by
  have notPart : s.operand 1 ≠ 0xFF#8 := fun e => by
    have : s.op 1 = 255 := congrArg BitVec.toNat e
    omega
  have target : below 48 (s.operand 1) = some b := below_of_toNat h1
  have mask : recordMaskOperand (s.operand 2) = some (BitVec.ofNat 5 (s.op 2)) := recordMaskOperand_of_lt h2
  show execAckAttention s = _
  rw [execAckAttention, commandEvent_inHand h, if_neg notPart, target, mask]

/-- Table 11-E: a reason mask names RETIRED when its bit 4 is set. -/
theorem namesRetired_iff {n : Nat} (h : n < 32) : BitVec.ofNat 5 n &&& RecordReason.retired.mask ≠ 0#5 ↔ 16 ≤ n := by
  interval_cases n <;> decide

/-- R120: the acknowledgement of RETIRED frees a RETIRED record. -/
theorem State.ackRecord_frees {n : Nat} (state : (s.record b).state = .retired) (h : n < 32) (named : 16 ≤ n) :
    s.ackRecord b (BitVec.ofNat 5 n) = s.putRecord b BindingRecord.free := if_pos ⟨state, (namesRetired_iff h).mpr named⟩

theorem State.ackRecord_clears {n : Nat} (h : n < 32) (kept : (s.record b).state ≠ .retired ∨ n < 16) :
    s.ackRecord b (BitVec.ofNat 5 n) =
      s.putRecord b { s.record b with reasons := (s.record b).reasons &&& ~~~BitVec.ofNat 5 n } :=
  if_neg fun ⟨state, named⟩ => kept.elim (· state) (Nat.not_lt.mpr ((namesRetired_iff h).mp named))

end

/-- Settles O48: the search from the NEXT cursor finds the record named, and each form posts its response. -/
theorem attentionCommands : Obligations.AttentionCommands := by
  intro s has
  refine ⟨fun h => ⟨fun part => ?_, fun part none => ?_, fun b part reason first => ?_⟩,
    fun h => ⟨fun h1 h2 => ?_, fun b h1 h2 => ⟨fun state named => ?_, fun kept => ?_⟩⟩⟩
  · have run := execNextAttention_part h part
    rw [State.partForm, byteOf_toNat, State.attentionSet_length] at run
    exact State.posted run rfl (Nat.le_of_ble_eq_true rfl)
  · exact State.posted (execNextAttention_none h part (State.nextInSet_of_none none)) rfl (Nat.zero_le _)
  · have next : s.nextInSet = some b :=
      first.elim (fun ⟨above, first⟩ => State.nextInSet_of_above reason above first)
        fun ⟨_, first⟩ => State.nextInSet_of_wrap reason first
    exact ⟨_, execNextAttention_record h part next, State.answers_post rfl .ok (snapshotBytes_length ..).le,
      cursor_after b, rfl⟩
  · have run := execAckAttention_part h h1 h2
    rw [byteOf_toNat] at run
    exact State.posted run rfl (Nat.le_of_ble_eq_true rfl)
  · have run := execAckAttention_record h h1 h2
    rw [State.ackRecord_frees state h2 named, State.record_putRecord_self] at run
    exact State.posted run rfl (Nat.le_of_ble_eq_true rfl)
  · have run := execAckAttention_record h h1 h2
    rw [State.ackRecord_clears h2 kept, State.record_putRecord_self, byteOf_toNat] at run
    exact State.posted run rfl (Nat.le_of_ble_eq_true rfl)

end Sys2Proof.Machine

namespace Sys2Proof.Machine

set_option Elab.async false

/-! ### The arbiter's choice (R131, R134) -/

section
variable {s : State}

theorem State.arbitrate_of_busy (busy : s.trunk.output ≠ .idle) : s.arbitrate = s := by
  unfold arbitrate
  split
  · rfl
  next idle => exact absurd idle busy

theorem State.arbitrate_of_down (down : s.line ≠ .up) : s.arbitrate = s := by
  unfold arbitrate
  split
  · rfl
  · exact if_neg down

theorem State.arbitrate_of_offer {o : Offer} (idle : s.trunk.output = .idle) (up : s.line = .up)
    (offer : s.noticeOffer = some o) : s.arbitrate = s.beginOffer o := by
  simp only [arbitrate, idle, up, if_true, offer]

theorem State.arbitrate_of_no_offer (idle : s.trunk.output = .idle) (up : s.line = .up)
    (offer : s.noticeOffer = none) : s.arbitrate = s.chooseData := by
  simp only [arbitrate, idle, up, if_true, offer]

/-- R136: a notice or the HELLO needs no credit and leaves the queue as it is. -/
theorem State.beginOffer_trunk (s : State) (o : Offer) :
    ∃ i bytes, (s.beginOffer o).trunk = { s.trunk with output := .busy i bytes } ∧ i ≠ .data := by
  cases o with
  | hello h =>
    simp only [beginOffer, beginHello, countRetransmission]
    split <;> exact ⟨.hello, _, rfl, nofun⟩
  | again e =>
    simp only [beginOffer, beginAgain, countRetransmission]
    split <;> exact ⟨.notice e.seq, _, rfl, nofun⟩
  | first b x => exact ⟨_, _, rfl, nofun⟩

/-- R131 items 2 and 3: the descriptor whose turn it is, whether or not it may begin. -/
def State.chosen (s : State) : Option Descriptor := (s.oldest .expedited).or (s.oldest .normal)

/-- R131: the oldest waiting descriptor of a priority stands behind none of its kind. -/
theorem State.oldest_eq_some {p : Priority} {d : Descriptor} : s.oldest p = some d ↔
    d.priority = p ∧ d.inTransmission = false ∧ ∃ before after, s.trunk.queue = before ++ d :: after ∧
      ∀ x ∈ before, x.priority = p → x.inTransmission = true := by
  simp [oldest, List.find?_eq_some_iff_append, and_assoc, imp_iff_not_or]

theorem State.oldest_eq_none {p : Priority} : s.oldest p = none ↔
    ∀ x ∈ s.trunk.queue, x.priority = p → x.inTransmission = true := by
  simp [oldest]

theorem State.chosen_eq_some {d : Descriptor} : s.chosen = some d ↔
    d.inTransmission = false ∧
      (∃ before after, s.trunk.queue = before ++ d :: after ∧
        ∀ x ∈ before, x.priority = d.priority → x.inTransmission = true) ∧
      (d.priority = .normal → ∀ x ∈ s.trunk.queue, x.priority = .expedited → x.inTransmission = true) := by
  rw [chosen, Option.or_eq_some_iff, oldest_eq_none, oldest_eq_some, oldest_eq_some]
  constructor
  · rintro (⟨priority, waits, place⟩ | ⟨none, priority, waits, place⟩)
    · exact ⟨waits, priority ▸ place, fun normal => by rw [priority] at normal; cases normal⟩
    · exact ⟨waits, priority ▸ place, fun _ => none⟩
  · rintro ⟨waits, place, first⟩
    cases priority : d.priority with
    | expedited => exact .inl ⟨rfl, waits, priority ▸ place⟩
    | normal => exact .inr ⟨first priority, rfl, waits, priority ▸ place⟩

theorem State.chosen_eq_none : s.chosen = none ↔ ∀ x ∈ s.trunk.queue, x.inTransmission = true := by
  rw [chosen, Option.or_eq_none_iff, oldest_eq_none, oldest_eq_none]
  refine ⟨fun ⟨expedited, normal⟩ x hx => ?_, fun all => ⟨fun x hx _ => all x hx, fun x hx _ => all x hx⟩⟩
  cases priority : x.priority with
  | expedited => exact expedited x hx priority
  | normal => exact normal x hx priority

theorem State.chooseData_of_none (none : s.chosen = none) : s.chooseData = s := by
  obtain ⟨expedited, normal⟩ := Option.or_eq_none_iff.mp none
  simp only [chooseData, expedited, normal]

theorem State.chooseData_of_some {d : Descriptor} (some : s.chosen = some d) : s.chooseData = s.beginData d.priority d := by
  rcases Option.or_eq_some_iff.mp some with expedited | ⟨none, normal⟩
  · simp only [chooseData, expedited, (oldest_eq_some.mp expedited).1]
  · simp only [chooseData, none, normal, (oldest_eq_some.mp normal).1]

/-- R134: a descriptor whose conditions do not hold is not begun. -/
theorem State.beginData_of_not {p : Priority} {d : Descriptor} (not : s.mayBegin d = false) : s.beginData p d = s := by
  simp only [beginData, not, Bool.false_eq_true, if_false]

/-- R134: the begin of a descriptor at its place in the queue. -/
theorem State.beginData_of_may {d : Descriptor} {before after : List Descriptor} (may : s.mayBegin d = true)
    (queue : s.trunk.queue = before ++ d :: after) (waits : d.inTransmission = false)
    (oldest : ∀ x ∈ before, x.priority = d.priority → x.inTransmission = true) :
    s.beginData d.priority d = { s with trunk :=
      { queue := before ++ { d with inTransmission := true } :: after
        output := .busy .data (dataBytes d), credit := s.trunk.credit - d.cells.length } } := by
  have marked := markFirst_split (fun x => x.priority == d.priority && !x.inTransmission) before after d
    (fun x hx => by simpa using oldest x hx) (by simp [waits])
  simp only [beginData, may, if_true, queue, marked]
  rfl

end

/-- Settles O29: the descriptor of the statement is `State.chosen`, and `State.mayBegin` is R134. -/
theorem arbiterOrder : Obligations.ArbiterOrder := by
  intro s t
  refine ⟨fun quiet => ?_, fun idle up => ⟨fun o offer => ?_, fun offer none => ?_, ?_⟩⟩
  · exact quiet.elim State.arbitrate_of_busy fun down => State.arbitrate_of_down (by simp [down])
  · obtain ⟨i, bytes, trunk, notData⟩ := s.beginOffer_trunk o
    have begun : t = s.beginOffer o := State.arbitrate_of_offer idle up offer
    rw [begun, trunk]
    exact ⟨rfl, rfl, i, bytes, rfl, notData⟩
  · exact (State.arbitrate_of_no_offer idle up offer).trans (State.chooseData_of_none (State.chosen_eq_none.mpr none))
  · intro before d after offer queue waits oldest first may
    have turn : t = s.beginData d.priority d := (State.arbitrate_of_no_offer idle up offer).trans
      (State.chooseData_of_some (State.chosen_eq_some.mpr ⟨waits, ⟨before, after, queue, oldest⟩, first⟩))
    refine ⟨fun h => ?_, fun h => ?_⟩
    · exact turn.trans (State.beginData_of_may ((s.mayBegin_iff d).mpr h) queue waits oldest)
    · exact turn.trans (State.beginData_of_not (Bool.eq_false_iff.mpr fun begins => h ((s.mayBegin_iff d).mp begins)))

/-- Settles O30: a begun DATA frame is neither a notice nor the state as it was, so the arbiter took
`State.beginData_of_may`. -/
theorem dataBeginIsAllowed : Obligations.DataBeginIsAllowed := by
  intro s bytes idle begun
  have moved : s.arbitrate ≠ s := fun same => by rw [same, idle] at begun; cases begun
  have up : s.line = .up := by_contra fun down => moved (State.arbitrate_of_down down)
  have offer : s.noticeOffer = none := by
    cases offer : s.noticeOffer with
    | none => rfl
    | some o =>
      obtain ⟨i, bytes', trunk, notData⟩ := s.beginOffer_trunk o
      rw [State.arbitrate_of_offer idle up offer, trunk] at begun
      exact absurd (Output.busy.inj begun).1 notData
  have choice := State.arbitrate_of_no_offer idle up offer
  cases turn : s.chosen with
  | none => exact absurd (choice.trans (State.chooseData_of_none turn)) moved
  | some d =>
    rw [State.chooseData_of_some turn] at choice
    obtain ⟨waits, ⟨before, after, queue, oldest⟩, first⟩ := State.chosen_eq_some.mp turn
    cases may : s.mayBegin d with
    | false => exact absurd (choice.trans (State.beginData_of_not may)) moved
    | true =>
      obtain ⟨credit, session, b, binding, held, announced, phase⟩ := (s.mayBegin_iff d).mp may
      have frame := choice.trans (State.beginData_of_may may queue waits oldest)
      rw [frame] at begun ⊢
      have composed : dataBytes d = bytes := (Output.busy.inj begun).2
      refine ⟨up, session, offer, before, d, after, b, queue, waits, rfl, Nat.add_sub_cancel' credit, binding, held,
        announced, phase, first, ⟨_, composed.symm, rfl⟩, rfl⟩

end Sys2Proof.Machine

namespace Sys2Proof.Machine

set_option Elab.async false

/-! ### A quiet arbiter (R131) -/

section
variable {s t : State}

/-- R155: when the Notice Unit offers nothing: no HELLO is due, no due number is a window entry's, and the head of the owed
list cannot go. -/
theorem State.noticeOffer_eq_none : s.noticeOffer = none ↔
    (∀ h, s.notice.hello = some h → h.due = false) ∧
    (∀ q ∈ s.notice.retransmit, ∀ e ∈ s.notice.window, e.seq ≠ q) ∧
    (s.notice.session = .up → s.notice.window.length < Config.windowCapacity →
      ∀ b rest, s.notice.owed = b :: rest → (s.record b).tag = none) := by
  have due : s.dueEntry = none ↔ ∀ q ∈ s.notice.retransmit, ∀ e ∈ s.notice.window, e.seq ≠ q := by
    simp [dueEntry, windowEntry]
  have owed : s.owedOffer = none ↔ (s.notice.session = .up → s.notice.window.length < Config.windowCapacity →
      ∀ b rest, s.notice.owed = b :: rest → (s.record b).tag = none) := by
    unfold owedOffer
    cases s.notice.owed <;> simp
  rw [← due, ← owed]
  unfold noticeOffer
  cases hello : s.notice.hello with
  | none => cases s.dueEntry <;> simp
  | some h => cases s.dueEntry <;> cases isDue : h.due <;> simp [Option.filter, isDue]

/-- No notice is offered, and the descriptor whose turn it is may not begin. -/
def State.NothingBegins (s : State) : Prop := s.noticeOffer = none ∧ ∀ d, s.chosen = some d → s.mayBegin d = false

theorem State.arbitrate_of_nothingBegins (h : s.NothingBegins) : s.arbitrate = s := by
  obtain ⟨offer, waits⟩ := h
  by_cases idle : s.trunk.output = .idle
  · by_cases up : s.line = .up
    · rw [arbitrate_of_no_offer idle up offer]
      cases turn : s.chosen with
      | none => exact chooseData_of_none turn
      | some d => rw [chooseData_of_some turn, beginData_of_not (waits d turn)]
    · exact arbitrate_of_down up
  · exact arbitrate_of_busy idle

/-- R134, R136: a begin makes the output BUSY. -/
theorem State.arbitrate_busy (idle : s.trunk.output = .idle) (up : s.line = .up) (begins : ¬s.NothingBegins) :
    s.arbitrate.trunk.output ≠ .idle := by
  cases offer : s.noticeOffer with
  | some o =>
    obtain ⟨i, bytes, trunk, _⟩ := s.beginOffer_trunk o
    rw [arbitrate_of_offer idle up offer, trunk]
    nofun
  | none =>
    have turn : ∃ d, s.chosen = some d ∧ s.mayBegin d = true := by simpa [NothingBegins, offer] using begins
    obtain ⟨d, turn, may⟩ := turn
    rw [arbitrate_of_no_offer idle up offer, chooseData_of_some turn]
    simp [beginData, may]

/-- R131: the three ways of `State.Quiet`. -/
theorem State.quiet_iff : s.Quiet ↔ s.trunk.output ≠ .idle ∨ s.line ≠ .up ∨ s.NothingBegins := by
  refine ⟨fun quiet => ?_, ?_⟩
  · by_contra begins
    push Not at begins
    obtain ⟨idle, up, begins⟩ := begins
    exact arbitrate_busy idle up begins (by rw [quiet, idle])
  · rintro (busy | down | waits)
    · exact arbitrate_of_busy busy
    · exact arbitrate_of_down down
    · exact arbitrate_of_nothingBegins waits

/-- R131: after its choice the arbiter has nothing more to begin. -/
theorem State.quiet_arbitrate (s : State) : s.arbitrate.Quiet := by
  by_cases quiet : s.Quiet
  · exact quiet.symm ▸ quiet
  · rw [quiet_iff] at quiet
    push Not at quiet
    obtain ⟨idle, up, begins⟩ := quiet
    exact arbitrate_of_busy (arbitrate_busy idle up begins)

/-- R134, R155: outside UP only the Notice Unit has something to begin. -/
theorem State.quiet_outside (session : s.notice.session ≠ .up) (offer : s.noticeOffer = none) : s.Quiet :=
  arbitrate_of_nothingBegins ⟨offer, fun d _ => Bool.eq_false_iff.mpr fun may => session ((s.mayBegin_iff d).mp may).2.1⟩

/-! ### Events that give the arbiter nothing to begin -/

/-- From `s` to `t` nothing comes up for the output: what waits is the same, a Notice Unit that offered nothing offers
nothing, and no descriptor comes to meet the conditions of R134. -/
structure State.AddsNothing (s t : State) : Prop where
  trunk : t.trunk = s.trunk
  line : t.line = s.line
  offer : s.noticeOffer = none → t.noticeOffer = none
  carry : ∀ d, t.mayBegin d = true → s.mayBegin d = true

theorem State.Quiet.keep (h : s.Quiet) (k : s.AddsNothing t) : t.Quiet := by
  rw [quiet_iff] at h ⊢
  rw [k.trunk, k.line]
  refine h.imp id (Or.imp id fun ⟨offer, waits⟩ => ⟨k.offer offer, fun d turn => ?_⟩)
  have same : t.chosen = s.chosen := by simp only [chosen, oldest, k.trunk]
  exact Bool.eq_false_iff.mpr fun may => by simpa [waits d (same ▸ turn)] using k.carry d may

/-- What the arbiter reads: the trunk, the notices, the tags' holders, and of each record its tag, announced flag and phase. -/
theorem State.AddsNothing.of_view (trunk : t.trunk = s.trunk) (line : t.line = s.line) (notice : t.notice = s.notice)
    (table : t.tags.table = s.tags.table)
    (records : ∀ b, (t.record b).tag = (s.record b).tag ∧ (t.record b).announced = (s.record b).announced ∧
      (t.record b).phase = (s.record b).phase) : s.AddsNothing t where
  trunk := trunk
  line := line
  offer h := by simpa only [noticeOffer_eq_none, notice, records] using h
  carry d may := by
    simpa only [mayBegin_iff, trunk, notice, records, tagEntry_congr table] using may

theorem State.Quiet.congr (h : s.Quiet) (trunk : t.trunk = s.trunk) (line : t.line = s.line) (notice : t.notice = s.notice)
    (table : t.tags.table = s.tags.table) (records : t.records = s.records) : t.Quiet :=
  h.keep (.of_view trunk line notice table fun b => by rw [record_congr records]; exact ⟨rfl, rfl, rfl⟩)

/-- A change of one record that leaves its tag, announced flag and phase. -/
theorem State.Quiet.updateRecord (h : s.Quiet) {b : BindingNo} {f : BindingRecord → BindingRecord}
    (tag : (f (s.record b)).tag = (s.record b).tag) (announced : (f (s.record b)).announced = (s.record b).announced)
    (phase : (f (s.record b)).phase = (s.record b).phase) : (s.updateRecord b f).Quiet := by
  refine h.keep (.of_view rfl rfl rfl rfl fun c => ?_)
  rw [record_updateRecord]
  split
  next same => rw [same]; exact ⟨tag, announced, phase⟩
  next => exact ⟨rfl, rfl, rfl⟩

/-- A record that is no longer announced carries nothing; it owes nothing without a tag or off the owed list. -/
theorem State.Quiet.putUnannounced (h : s.Quiet) {b : BindingNo} {r : BindingRecord} (announced : r.announced = false)
    (owes : r.tag = none ∨ b ∉ s.notice.owed) : (s.putRecord b r).Quiet := by
  refine h.keep ⟨rfl, rfl, fun offer => ?_, fun d may => ?_⟩
  · rw [noticeOffer_eq_none] at offer ⊢
    refine ⟨offer.1, offer.2.1, fun up room c rest owed => ?_⟩
    rw [record_putRecord]
    split
    next same => exact owes.resolve_right fun off => off (by rw [← same]; exact owed ▸ List.mem_cons_self)
    next => exact offer.2.2 up room c rest owed
  · obtain ⟨credit, up, c, binding, held, carried, phase⟩ := ((s.putRecord b r).mayBegin_iff d).mp may
    have other : c ≠ b := fun same => by simp [same, announced] at carried
    rw [record_putRecord_ne s r other] at carried phase
    exact (s.mayBegin_iff d).mpr ⟨credit, up, c, binding, held, carried, phase⟩

/-- R75: a tag taken out of the free list by a record that is not announced carries nothing. -/
theorem State.Quiet.holdFixed (h : s.Quiet) {b : BindingNo} (x : Tag) (free : List Tag)
    (announced : (s.record b).announced = false) :
    { s with tags := { s.tags with table := s.tags.table.set x (.held b), freeList := free } }.Quiet := by
  refine h.keep ⟨rfl, rfl, id, fun d may => ?_⟩
  obtain ⟨credit, up, c, binding, held, carried, phase⟩ := (mayBegin_iff _ d).mp may
  have other : d.tag ≠ x := fun same => by
    rw [same, tagEntry_set (s := s) rfl, if_pos rfl] at held
    obtain rfl := TagEntry.held.inj held
    exact absurd carried (Bool.eq_false_iff.mp announced)
  rw [tagEntry_set (s := s) rfl, if_neg other] at held
  exact (s.mayBegin_iff d).mpr ⟨credit, up, c, binding, held, carried, phase⟩

end

/-! ### The commands without the arbiter's choice -/

section
variable {s t : State}

theorem State.Quiet.setHost (h : s.Quiet) (x : HostPort) : { s with host := x }.Quiet := h.congr rfl rfl rfl rfl rfl

theorem State.Quiet.post (h : s.Quiet) (r : Result) (data : List Byte) : (s.post r data).Quiet := h.setHost _

theorem State.Quiet.refuse (h : s.Quiet) (r : Result) : (s.refuse r).Quiet := h.setHost _

theorem State.Quiet.updateFeeder (h : s.Quiet) (l : LinkNo) (f : FeederLink → FeederLink) : (s.updateFeeder l f).Quiet :=
  h.congr rfl rfl rfl rfl rfl

theorem State.Quiet.raisePart (h : s.Quiet) (r : PartReason) : (s.raisePart r).Quiet := by
  rw [raisePart_eq]
  exact h.congr rfl rfl rfl rfl rfl

theorem State.Quiet.returnCells (h : s.Quiet) (n : Nat) : (s.returnCells n).Quiet := h.congr rfl rfl rfl rfl rfl

/-! #### The feeder family -/

theorem execOpenMarker_quiet {l : LinkNo} {format : Fin 16} {stream : StreamNo} {n : Byte} (law : s.Quiet)
    (h : execOpenMarker l format stream n s = .next t) : t.Quiet := by
  refine takeEvent_keeps h law ?_
  split
  · split
    · exact law.updateFeeder _ _
    · exact State.quiet_arbitrate _
  · exact law

theorem State.Quiet.takeCell (h : s.Quiet) (l : LinkNo) (f : OpenFrame) (payload : List Byte) :
    (s.takeCell l f payload).Quiet := by
  unfold State.takeCell
  simp only
  split
  · exact h.updateFeeder _ _
  · split
    · unfold reserveCell
      split
      · exact h.congr rfl rfl rfl rfl rfl
      · exact ((h.returnCells _).updateFeeder _ _).raisePart _
    · exact (h.returnCells _).updateFeeder _ _

theorem execCellMarker_quiet {l : LinkNo} {payload : List Byte} (law : s.Quiet)
    (h : execCellMarker l payload s = .next t) : t.Quiet := by
  refine takeEvent_keeps h law ?_
  split
  · split
    · exact law
    · exact law.takeCell l _ payload
  · exact law

theorem execFrameClose_quiet {l : LinkNo} {declared : Byte} {crc : BitVec 16} (law : s.Quiet)
    (h : execFrameClose l declared crc s = .next t) : t.Quiet := by
  refine takeEvent_keeps h law ?_
  split
  · split
    · exact law
    · exact State.quiet_arbitrate _
  · exact law

theorem execLineLock_quiet {l : LinkNo} (law : s.Quiet) (h : execLineLock l s = .next t) : t.Quiet := by
  refine takeEvent_keeps h law ?_
  split
  · exact (law.updateFeeder _ _).raisePart _
  · exact law

theorem execLockLoss_quiet {l : LinkNo} (law : s.Quiet) (h : execLockLoss l s = .next t) : t.Quiet := by
  refine takeEvent_keeps h law ?_
  split
  · split
    · exact (law.updateFeeder _ _).raisePart _
    · exact State.quiet_arbitrate _
  · exact law

/-! #### Timers -/

theorem execLeaseExpiry_quiet {b : BindingNo} (law : s.Quiet) (h : execLeaseExpiry b s = .next t) : t.Quiet := by
  refine takeEvent_keeps h law ?_
  split
  · exact State.quiet_arbitrate _
  · exact law

theorem execHoldOffExpiry_quiet (law : s.Quiet) (h : execHoldOffExpiry s = .next t) : t.Quiet :=
  takeEvent_keeps h law (State.quiet_arbitrate _)

theorem execHelloTimerExpiry_quiet (law : s.Quiet) (h : execHelloTimerExpiry s = .next t) : t.Quiet := by
  refine takeEvent_keeps h law ?_
  split
  · split
    · exact State.quiet_arbitrate _
    · exact law
  · exact law

theorem execNoticeTimerExpiry_quiet {q : Byte} (law : s.Quiet) (h : execNoticeTimerExpiry q s = .next t) : t.Quiet := by
  refine takeEvent_keeps h law ?_
  split
  · split
    · exact State.quiet_arbitrate _
    · exact law
  · exact law

/-- R15, R148, R157: a tick moves timers and ages, and makes nothing due. -/
theorem State.addsNothing_advance (s : State) : s.AddsNothing s.advance where
  trunk := rfl
  line := rfl
  offer h := by
    obtain ⟨hello, due, owed⟩ := noticeOffer_eq_none.mp h
    refine noticeOffer_eq_none.mpr ⟨fun g slot => ?_, fun q hq e he => ?_, fun up room b rest head => ?_⟩
    · obtain ⟨g', slot', rfl⟩ := Option.map_eq_some_iff.mp slot
      exact hello g' slot'
    · obtain ⟨e', he', rfl⟩ := List.mem_map.mp he
      exact due q hq e' he'
    · rw [record_advance]
      exact owed up (List.length_map (as := s.notice.window) _ ▸ room) b rest head
  carry d may := by
    obtain ⟨credit, up, b, binding, held, announced, phase⟩ := (mayBegin_iff _ d).mp may
    rw [record_advance] at announced phase
    have held : s.tagEntry d.tag = .held b := by
      rw [tagEntry_advance] at held
      cases entry : s.tagEntry d.tag <;> simp_all [TagEntry.tick]
    exact (s.mayBegin_iff d).mpr ⟨credit, up, b, binding, held, announced, phase⟩

theorem execTimebaseTick_quiet (law : s.Quiet) (h : execTimebaseTick s = .next t) : t.Quiet := by
  refine takeEvent_keeps h law ?_
  rw [s.tick_eq]
  exact (law.keep s.addsNothing_advance).congr rfl rfl rfl rfl rfl

/-! #### The trunk and its replies -/

theorem execSendCompletion_quiet (law : s.Quiet) (h : execSendCompletion s = .next t) : t.Quiet := by
  refine takeEvent_keeps h law ?_
  split
  · exact State.quiet_arbitrate _
  · exact law

theorem execNoticeEnd_quiet (law : s.Quiet) (h : execNoticeEnd s = .next t) : t.Quiet := by
  refine takeEvent_keeps h law ?_
  split
  · exact State.quiet_arbitrate _
  · exact State.quiet_arbitrate _
  · exact law
  · exact law

theorem execLineUp_quiet (law : s.Quiet) (h : execLineUp s = .next t) : t.Quiet := by
  refine takeEvent_keeps h law ?_
  split
  · exact State.quiet_arbitrate _
  · exact law

theorem State.enterResync_line (s : State) : s.enterResync.line = s.line := by
  obtain ⟨_, _, _, _, frame, _⟩ := s.sessionLoss_frame .resync
  rw [enterResync, issueHello, frame]

theorem State.sessionLineDown_line (s : State) : s.sessionLineDown.line = s.line := by
  unfold sessionLineDown
  split
  · exact s.enterResync_line
  all_goals rfl

theorem State.moveDrained_line (s : State) (b : BindingNo) : (s.moveDrained b).line = s.line := by
  obtain ⟨_, _, _, frame⟩ := s.moveDrained_frame b
  rw [frame]

/-- R132: while the line is DOWN nothing is begun. -/
theorem execLineDown_quiet (law : s.Quiet) (h : execLineDown s = .next t) : t.Quiet := by
  refine takeEvent_keeps h law ?_
  split
  · refine State.arbitrate_of_down ?_
    simp only
    split
    · rw [State.moveDrained_line, State.sessionLineDown_line]
      nofun
    · rw [State.sessionLineDown_line]
      nofun
  · exact law

theorem execCredit_quiet {increment : BitVec 16} (law : s.Quiet) (h : execCredit increment s = .next t) : t.Quiet := by
  refine returnEvent_keeps h law ?_
  split
  · exact State.quiet_arbitrate _
  · exact law

theorem execHelloAck_quiet {number : Byte} (law : s.Quiet) (h : execHelloAck number s = .next t) : t.Quiet := by
  refine returnEvent_keeps h law ?_
  split
  · exact State.quiet_arbitrate _
  · exact law.congr rfl rfl rfl rfl rfl

theorem execAck_quiet {q : Byte} (law : s.Quiet) (h : execAck q s = .next t) : t.Quiet := by
  refine returnEvent_keeps h law ?_
  split <;> exact State.quiet_arbitrate _

theorem execNak_quiet {q : Byte} {r : NakReason} (law : s.Quiet) (h : execNak q r s = .next t) : t.Quiet := by
  refine returnEvent_keeps h law ?_
  split <;> exact State.quiet_arbitrate _

theorem execResyncRequest_quiet (law : s.Quiet) (h : execResyncRequest s = .next t) : t.Quiet := by
  refine returnEvent_keeps h law ?_
  split
  · exact State.quiet_arbitrate _
  · exact law

/-! #### Sweeps and resets -/

theorem execSweepVisit_quiet (law : s.Quiet) (h : execSweepVisit s = .next t) : t.Quiet := by
  refine takeEvent_keeps h law ?_
  split
  · split
    · split
      · exact State.quiet_arbitrate _
      · exact law
    · exact law
  · exact law

theorem execSweep_quiet (law : s.Quiet) (h : execSweep s = .next t) : t.Quiet := by
  refine commandEvent_keeps h law ?_
  split
  · exact law.refuse _
  · split
    · exact law.refuse _
    · exact law.congr rfl rfl rfl rfl rfl

theorem execAbortSweep_quiet (law : s.Quiet) (h : execAbortSweep s = .next t) : t.Quiet := by
  have stopped : { s with sweep.running := false, sweep.aborted := true }.Quiet := law.congr rfl rfl rfl rfl rfl
  refine commandEvent_keeps h law ?_
  split
  · exact (stopped.raisePart _).post _ _
  · exact law.post _ _

/-- R166: RESTART closes the session with nothing to send. -/
theorem execRestart_quiet (law : s.Quiet) (h : execRestart s = .next t) : t.Quiet :=
  commandEvent_keeps h law ((State.quiet_outside (s := s.restarted) nofun rfl).post _ _)

theorem execResetAssertion_quiet (law : s.Quiet) (h : execResetAssertion s = .next t) : t.Quiet := by
  obtain rfl := Host.Outcome.next.inj h
  exact law.congr rfl rfl rfl rfl rfl

theorem execPowerOnReset_quiet (h : execPowerOnReset s = .next t) : t.Quiet := by
  obtain rfl := Host.Outcome.next.inj h
  exact State.arbitrate_of_down nofun

/-! #### The host port -/

theorem execStatusWindowRead_quiet {address : BitVec 7} {length : Nat} (law : s.Quiet)
    (h : execStatusWindowRead address length s = .next t) : t.Quiet := by
  refine takeEvent_keeps h law ?_
  simp only
  split <;> exact law.setHost _

theorem execCommandWrite_quiet {data : List Byte} (law : s.Quiet) (h : execCommandWrite data s = .next t) : t.Quiet := by
  refine takeEvent_keeps h law ?_
  split <;> exact law.setHost _

theorem execGo_quiet {data : List Byte} (law : s.Quiet) (h : execGo data s = .next t) : t.Quiet := by
  refine takeEvent_keeps h law ?_
  split <;> exact law.setHost _

theorem execUnknownCommand_quiet (law : s.Quiet) (h : execUnknownCommand s = .next t) : t.Quiet := by
  refine takeEvent_keeps h law ?_
  split
  · exact law.refuse _
  · exact law

theorem execStatus_quiet (law : s.Quiet) (h : execStatus s = .next t) : t.Quiet := by
  refine commandEvent_keeps h law ?_
  split
  · exact law.refuse _
  · simp only
    split
    · exact law.congr rfl rfl rfl rfl rfl
    · exact law.setHost _

/-! #### Records and tags -/

theorem State.Quiet.postSnapshot (h : s.Quiet) (b : BindingNo) (clear : Bool) : (s.postSnapshot b clear).Quiet := by
  unfold State.postSnapshot
  simp only
  split
  · exact (h.post _ _).updateRecord rfl rfl rfl
  · exact h.post _ _

theorem execReadRecord_quiet (law : s.Quiet) (h : execReadRecord s = .next t) : t.Quiet := by
  refine commandEvent_keeps h law ?_
  split
  · exact law.postSnapshot _ _
  · exact law.refuse _

theorem execLookupKey_quiet (law : s.Quiet) (h : execLookupKey s = .next t) : t.Quiet := by
  refine commandEvent_keeps h law ?_
  split
  · split
    · exact law.postSnapshot _ _
    · exact law.refuse _
  · exact law.refuse _

theorem execLookupTag_quiet (law : s.Quiet) (h : execLookupTag s = .next t) : t.Quiet := by
  refine commandEvent_keeps h law ?_
  split
  · split
    · exact law.postSnapshot _ _
    · exact law.refuse _
    · exact law.refuse _
  · exact law.refuse _

/-- Table 1-B: a FREE record is owed no notice. -/
theorem State.NoticeLaw.free_not_owed (h : s.NoticeLaw) {b : BindingNo} (free : (s.record b).state = .free) :
    b ∉ s.notice.owed := by
  obtain ⟨owed, _, _, _, _, _, states, _⟩ := h
  intro listed
  have phase : (s.record b).phase = .owed := (owed b).mpr listed
  have state := states b (by rw [phase]; nofun)
  simp [free] at state

/-- R58, R59: a provisioned record is not announced, so the tag it takes out carries nothing. -/
theorem State.Quiet.provisionWith (h : s.Quiet) (notices : s.NoticeLaw) (k : Key) (c : ClassNo) (pinned : Bool)
    (fixed : Option Tag) : (s.provisionWith k c pinned fixed).Quiet := by
  unfold State.provisionWith
  split
  · exact h.refuse _
  · exact h.refuse _
  · exact h.refuse _
  next b _ found _ =>
    refine State.Quiet.post ?_ _ _
    have off : b ∉ s.notice.owed := notices.free_not_owed (lowestFree_some found)
    cases fixed with
    | none =>
      rw [createProvisioned_none]
      exact h.putUnannounced rfl (.inr off)
    | some x =>
      rw [createProvisioned_some]
      exact (h.putUnannounced (r := { BindingRecord.provisioned k c pinned s.classes[c].leaseLength with tag := some x })
        rfl (.inr off)).holdFixed x _ (by rw [record_putRecord_self]; rfl)

theorem execProvision_quiet (notices : s.NoticeLaw) (law : s.Quiet) (h : execProvision s = .next t) : t.Quiet := by
  refine commandEvent_keeps h law ?_
  split
  · exact law.provisionWith notices _ _ _ _
  · exact law.refuse _

theorem execModify_quiet (law : s.Quiet) (h : execModify s = .next t) : t.Quiet := by
  refine commandEvent_keeps h law ?_
  split
  · split
    · exact law.refuse _
    · exact law.refuse _
    · refine State.Quiet.post (law.updateRecord ?_ ?_ ?_) _ _ <;> rfl
  · exact law.refuse _

theorem execRetire_quiet (law : s.Quiet) (h : execRetire s = .next t) : t.Quiet := by
  refine commandEvent_keeps h law ?_
  split
  · exact law.refuse _
  · split
    · exact law.refuse _
    · exact law.refuse _
    · exact law.post _ _
    · exact (State.quiet_arbitrate _).post _ _

theorem execReleaseTag_quiet (law : s.Quiet) (h : execReleaseTag s = .next t) : t.Quiet := by
  refine commandEvent_keeps h law ?_
  split
  · exact law.refuse _
  · split
    · exact (State.quiet_arbitrate _).post _ _
    · exact law.refuse _
    · exact law.refuse _

/-! #### Attention and settings -/

theorem execNextAttention_quiet (law : s.Quiet) (h : execNextAttention s = .next t) : t.Quiet := by
  refine commandEvent_keeps h law ?_
  split
  · exact law.post _ _
  · split
    · exact law.congr rfl rfl rfl rfl rfl
    · exact law.post _ _

/-- R120: a report taken away holds no tag. -/
theorem State.Quiet.ackRecord (h : s.Quiet) (b : BindingNo) (mask : BitVec 5) : (s.ackRecord b mask).Quiet := by
  unfold State.ackRecord
  split
  · exact h.putUnannounced rfl (.inl rfl)
  · exact h.updateRecord rfl rfl rfl

theorem execAckAttention_quiet (law : s.Quiet) (h : execAckAttention s = .next t) : t.Quiet := by
  refine commandEvent_keeps h law ?_
  split
  · split
    · exact law.congr rfl rfl rfl rfl rfl
    · exact law.refuse _
  · split
    · exact (law.ackRecord _ _).post _ _
    · exact law.refuse _

theorem execSetClass_quiet (law : s.Quiet) (h : execSetClass s = .next t) : t.Quiet := by
  refine commandEvent_keeps h law ?_
  split
  · exact law.refuse _
  · exact law.congr rfl rfl rfl rfl rfl

theorem State.Quiet.enableLink (h : s.Quiet) (l : LinkNo) : (s.enableLink l).Quiet := by
  unfold State.enableLink
  split
  · exact (h.updateFeeder _ _).raisePart _
  · exact h

theorem execSetLink_quiet (law : s.Quiet) (h : execSetLink s = .next t) : t.Quiet := by
  refine commandEvent_keeps h law ?_
  split
  · refine State.Quiet.post ?_ _ _
    split
    · exact (law.updateFeeder _ _).enableLink _
    · exact State.quiet_arbitrate _
  · exact law.refuse _

theorem execReadLink_quiet (law : s.Quiet) (h : execReadLink s = .next t) : t.Quiet := by
  refine commandEvent_keeps h law ?_
  split
  · simp only
    split
    · exact (law.post _ _).updateFeeder _ _
    · exact law.post _ _
  · exact law.refuse _

theorem execSetTiming_quiet (law : s.Quiet) (h : execSetTiming s = .next t) : t.Quiet := by
  refine commandEvent_keeps h law ?_
  split
  · exact (State.quiet_arbitrate _).post _ _
  · exact law.refuse _

theorem execSetAttentionEnables_quiet (law : s.Quiet) (h : execSetAttentionEnables s = .next t) : t.Quiet := by
  refine commandEvent_keeps h law ?_
  split
  · exact law.congr rfl rfl rfl rfl rfl
  · exact law.refuse _

/-! #### The session -/

theorem execTrunkOpen_quiet (law : s.Quiet) (h : execTrunkOpen s = .next t) : t.Quiet := by
  refine commandEvent_keeps h law ?_
  split
  · exact (State.quiet_arbitrate _).post _ _
  all_goals exact law.refuse _

/-- R146: a CLOSED session lets no DATA frame and no owed notice begin. -/
theorem State.Quiet.closeFailed (h : s.Quiet) : s.closeFailed.Quiet := by
  have closed : { s with notice.session := .closed }.Quiet := by
    refine h.keep ⟨rfl, rfl, fun offer => ?_, fun d may => ?_⟩
    · obtain ⟨hello, due, _⟩ := noticeOffer_eq_none.mp offer
      exact noticeOffer_eq_none.mpr ⟨hello, due, nofun⟩
    · exact absurd ((mayBegin_iff _ d).mp may).2.1 nofun
  exact closed.raisePart _

theorem execTrunkClose_quiet (law : s.Quiet) (h : execTrunkClose s = .next t) : t.Quiet := by
  refine commandEvent_keeps h law ?_
  split
  · exact law.post _ _
  · exact law.closeFailed.post _ _
  all_goals exact (State.quiet_arbitrate _).post _ _

/-! #### Every command -/

theorem exec_quiet {c : Instr} (notices : s.NoticeLaw) (law : s.Quiet) (h : exec c s = .next t) : t.Quiet := by
  cases c with
  | openMarker => exact execOpenMarker_quiet law h
  | cellMarker => exact execCellMarker_quiet law h
  | frameClose => exact execFrameClose_quiet law h
  | lineLock => exact execLineLock_quiet law h
  | lockLoss => exact execLockLoss_quiet law h
  | leaseExpiry => exact execLeaseExpiry_quiet law h
  | holdOffExpiry => exact execHoldOffExpiry_quiet law h
  | sendCompletion => exact execSendCompletion_quiet law h
  | noticeEnd => exact execNoticeEnd_quiet law h
  | lineUp => exact execLineUp_quiet law h
  | lineDown => exact execLineDown_quiet law h
  | credit => exact execCredit_quiet law h
  | helloAck => exact execHelloAck_quiet law h
  | ack => exact execAck_quiet law h
  | nak => exact execNak_quiet law h
  | resyncRequest => exact execResyncRequest_quiet law h
  | helloTimerExpiry => exact execHelloTimerExpiry_quiet law h
  | noticeTimerExpiry => exact execNoticeTimerExpiry_quiet law h
  | sweepVisit => exact execSweepVisit_quiet law h
  | statusWindowRead => exact execStatusWindowRead_quiet law h
  | commandWrite => exact execCommandWrite_quiet law h
  | go data => exact execGo_quiet (data := data) law h
  | unknownCommand => exact execUnknownCommand_quiet law h
  | status => exact execStatus_quiet law h
  | readRecord => exact execReadRecord_quiet law h
  | lookupKey => exact execLookupKey_quiet law h
  | lookupTag => exact execLookupTag_quiet law h
  | provision => exact execProvision_quiet notices law h
  | modify => exact execModify_quiet law h
  | retire => exact execRetire_quiet law h
  | releaseTag => exact execReleaseTag_quiet law h
  | nextAttention => exact execNextAttention_quiet law h
  | ackAttention => exact execAckAttention_quiet law h
  | setClass => exact execSetClass_quiet law h
  | setLink => exact execSetLink_quiet law h
  | readLink => exact execReadLink_quiet law h
  | setTiming => exact execSetTiming_quiet law h
  | setAttentionEnables => exact execSetAttentionEnables_quiet law h
  | trunkOpen => exact execTrunkOpen_quiet law h
  | trunkClose => exact execTrunkClose_quiet law h
  | sweep => exact execSweep_quiet law h
  | abortSweep => exact execAbortSweep_quiet law h
  | restart => exact execRestart_quiet law h
  | resetAssertion => exact execResetAssertion_quiet law h
  | powerOnReset => exact execPowerOnReset_quiet h
  | timebaseTick => exact execTimebaseTick_quiet law h
  | unrecognisedMarker | ignoredWrite => exact takeEvent_keeps (f := id) h law law
  | discardedReturnMessage => exact returnEvent_keeps (f := id) h law law

end

/-- Settles O60: a command ends in the arbiter's choice, takes the line DOWN, closes the session, or adds nothing to begin. -/
theorem quietKept : Obligations.QuietKept := by
  intro s t notices quiet h
  unfold step at h
  split at h
  · obtain rfl := Host.Outcome.next.inj h
    exact quiet
  next c rest _ =>
    exact exec_quiet (s := { s with pending := rest }) notices (quiet.congr rfl rfl rfl rfl rfl) h

end Sys2Proof.Machine

namespace Sys2Proof.Machine

set_option Elab.async false

/-! ### The return path (R133, R151) -/

theorem returnEvent_hears {s : State} (h : s.hears) (f : State → State) : returnEvent s f = .next (f s) := by
  obtain ⟨awake, up⟩ := h
  exact (takeEvent_awake awake _).trans (by rw [if_pos up])

/-- Settles O28: the sum of R133 is a minimum. -/
theorem creditSaturates : Obligations.CreditSaturates := by
  intro s increment hears
  refine ⟨fun fits => ?_, fun above => ?_⟩
  · refine (returnEvent_hears hears _).trans ?_
    rw [if_pos fits, min_def]
  · exact (returnEvent_hears hears _).trans (by rw [if_neg (Nat.not_le.mpr above)])

/-! ### The end of a notice (R136, R148, R157) -/

/-- R157: the entry of a notice that ended starts its timer, unless it is due again. -/
theorem State.startTimer_notice (s : State) (q : Byte) : s.startTimer (.notice q) = { s with
    notice.window := s.notice.window.map fun e =>
      if e.seq = q ∧ q ∉ s.notice.retransmit then { e with timer := some s.notice.timeout } else e } := by
  by_cases due : q ∈ s.notice.retransmit
  · simp [startTimer, due]
  · simp [startTimer, updateEntry, due]

section
variable {s : State} {bytes : List Byte}

theorem execNoticeEnd_notice {q : Byte} (awake : s.awake) (output : s.trunk.output = .busy (.notice q) bytes) :
    exec .noticeEnd s = .next { s.startTimer (.notice q) with trunk.output := .idle }.arbitrate := by
  show execNoticeEnd s = _
  simp only [execNoticeEnd, takeEvent_awake awake, output]

theorem execNoticeEnd_hello (awake : s.awake) (output : s.trunk.output = .busy .hello bytes) :
    exec .noticeEnd s = .next { s.startTimer .hello with trunk.output := .idle }.arbitrate := by
  show execNoticeEnd s = _
  simp only [execNoticeEnd, takeEvent_awake awake, output]

theorem execNoticeEnd_none (awake : s.awake)
    (output : s.trunk.output = .idle ∨ ∃ bytes, s.trunk.output = .busy .data bytes) : exec .noticeEnd s = .next s := by
  show execNoticeEnd s = _
  rcases output with output | ⟨_, output⟩ <;> simp only [execNoticeEnd, takeEvent_awake awake, output]

end

/-- Settles O26: `State.startTimer` by the kind of the item that ended. -/
theorem noticeEndStartsTimer : Obligations.NoticeEndStartsTimer := by
  intro s awake
  refine ⟨fun q bytes output => ?_, fun bytes output => execNoticeEnd_hello awake output, execNoticeEnd_none awake⟩
  rw [execNoticeEnd_notice awake output, State.startTimer_notice]

/-! ### The notice that a drain moves on (R116, R137) -/

section
variable {s : State} {b : BindingNo} {r : BindingRecord}

/-- R137: only a notice in DRAIN with nothing in flight, of an ANNOUNCING or RETIRING record, moves on. -/
theorem State.moveDrained_of_state (announcing : (s.record b).state ≠ .announcing)
    (retiring : (s.record b).state ≠ .retiring) : s.moveDrained b = s := by
  unfold moveDrained
  split
  · split
    next state => exact absurd state retiring
    next state => exact absurd state announcing
    next => rfl
  · rfl

theorem State.moveDrained_putRecord_of_not (h : ¬(r.phase = .drain ∧ r.inFlight = 0)) :
    (s.putRecord b r).moveDrained b = s.putRecord b r := moveDrained_of_not (by rwa [record_putRecord_self])

/-- R137: the BIND of a record that drained is owed in an UP session and awaits one otherwise. -/
theorem State.moveDrained_announcing (state : r.state = .announcing) (phase : r.phase = .drain) (flight : r.inFlight = 0) :
    (s.putRecord b r).moveDrained b = { s with notice.owed := s.owedWith b }.putRecord b
      { r with phase := if s.notice.session = Session.up then .owed else .awaitSession } := by
  simp only [moveDrained, record_putRecord_self, phase, flight, state, oweOrAwait_eq, and_self, if_true]
  exact putRecord_putRecord { s with notice.owed := s.owedWith b } ..

/-- R116: the drain end of a RETIRING record. -/
theorem State.moveDrained_retiring (state : r.state = .retiring) (phase : r.phase = .drain) (flight : r.inFlight = 0) :
    (s.putRecord b r).moveDrained b =
      if r.announced then { s with notice.owed := s.notice.owed ++ [b] }.putRecord b { r with phase := .owed }
      else if s.notice.session = .up then (s.putRecord b r).releaseAndComplete b
      else s.putRecord b { r with phase := .awaitSession } := by
  simp only [moveDrained, record_putRecord_self, phase, flight, state, drainEnd, updateRecord_eq, putRecord_putRecord,
    oweNotice_putRecord, and_self, if_true]
  rfl

/-- R116, R137: outside UP a record that is not announced awaits the session. -/
theorem State.moveDrained_awaits (session : s.notice.session ≠ .up) (phase : r.phase = .drain) (flight : r.inFlight = 0)
    (state : r.state = .announcing ∨ r.state = .retiring ∧ r.announced = false) :
    (s.putRecord b r).moveDrained b = s.putRecord b { r with phase := .awaitSession } := by
  rcases state with state | ⟨state, announced⟩
  · rw [moveDrained_announcing state phase flight, owedWith, if_neg session, if_neg session]
  · rw [moveDrained_retiring state phase flight, if_neg (by simp [announced]), if_neg session]

/-- R137: the UNBIND of an announced record is owed, and so is the BIND of an ANNOUNCING one in an UP session. -/
theorem State.moveDrained_owes (phase : r.phase = .drain) (flight : r.inFlight = 0)
    (state : r.state = .announcing ∧ s.notice.session = .up ∨ r.state = .retiring ∧ r.announced = true) :
    (s.putRecord b r).moveDrained b =
      { s with notice.owed := s.notice.owed ++ [b] }.putRecord b { r with phase := .owed } := by
  rcases state with ⟨state, up⟩ | ⟨state, announced⟩
  · rw [moveDrained_announcing state phase flight, owedWith, if_pos up, if_pos up]
  · rw [moveDrained_retiring state phase flight, if_pos announced]

end

/-! ### The send completion (R137) -/

section
variable {s : State} {d : Descriptor} {bytes : List Byte}

theorem execSendCompletion_eq (awake : s.awake) (output : s.trunk.output = .busy .data bytes) (sending : s.sending = some d) :
    exec .sendCompletion s = .next { (s.completeSend d).grantIfReleased s with trunk.output := .idle }.arbitrate := by
  have item : s.sendingItem = some d := by rw [State.sendingItem, output, sending]
  show execSendCompletion s = _
  simp only [execSendCompletion, takeEvent_awake awake, item]

/-- A completion that leaves the free list as it is grants nothing. -/
theorem execSendCompletion_of_eq {u : State} (awake : s.awake) (output : s.trunk.output = .busy .data bytes)
    (sending : s.sending = some d) (sent : s.completeSend d = u) (tags : u.tags = s.tags) :
    exec .sendCompletion s = .next { u with trunk.output := .idle }.arbitrate := by
  rw [execSendCompletion_eq awake output sending, sent, State.grantIfReleased_of_tags tags]

end

/-- Settles O25: the drain ends of `State.moveDrained`, of which only a completion of retirement releases a tag. -/
theorem sendCompletionReturnsCells : Obligations.SendCompletionReturnsCells := by
  intro s d bytes awake output sending base idle
  refine ⟨fun none => ?_, ?_⟩
  · refine execSendCompletion_of_eq awake output sending ?_ rfl
    rw [State.completeSend, none]
    rfl
  intro b binding r low
  have sent : s.completeSend d = (base.putRecord b low).moveDrained b := by
    rw [State.completeSend, binding]
    rfl
  refine ⟨fun stays => ?_, fun phase flight => ?_⟩
  · refine execSendCompletion_of_eq awake output sending (sent.trans (State.moveDrained_putRecord_of_not ?_)) rfl
    exact fun ⟨phase, flight⟩ => stays ⟨phase, Nat.sub_eq_zero_iff_le.mp flight⟩
  have flight : low.inFlight = 0 := Nat.sub_eq_zero_of_le flight
  refine ⟨fun state => ?_, fun state session => ?_, fun x state announced session tag held => ?_⟩
  · exact execSendCompletion_of_eq awake output sending (sent.trans (State.moveDrained_owes phase flight state)) rfl
  · exact execSendCompletion_of_eq awake output sending
      (sent.trans (State.moveDrained_awaits session phase flight state)) rfl
  · have ends : (base.putRecord b low).moveDrained b =
        { base with tags := s.tags.releasing x }.putRecord b (s.retiredOrFree { low with tag := none }) :=
      (State.moveDrained_retiring (r := low) state phase flight).trans ((if_neg (Bool.eq_false_iff.mp announced)).trans
        ((if_pos session).trans (State.putRecord_releaseAndComplete_tagged tag held)))
    rw [execSendCompletion_eq awake output sending, sent, ends]

/-! ### The entry to RESYNC (R139, R147, R151, R152) -/

/-- R151: everything that the entry to RESYNC leaves but the records. -/
theorem State.enterResync_frame (s : State) : ∃ rs, s.enterResync = { s with
    records := rs
    trunk := { s.trunk with queue := s.trunk.queue.filter (·.inTransmission), credit := 0 }
    freeCells := s.freeCells + ((s.trunk.queue.filter fun d => !d.inTransmission).map fun d => d.cells.length).sum
    counters := { s.counters with framesPurged :=
      satSucc^[(s.trunk.queue.filter fun d => !d.inTransmission).length] s.counters.framesPurged }
    notice := { s.notice with
      session := .resync, number := s.notice.number + 1, hello := some ⟨0, none, true⟩
      owed := [], window := [], retransmit := [] }
    attention := { s.attention with part := s.partAfter 0x08#6 } } := by
  obtain ⟨rs, purged⟩ := s.purge_frame
  refine ⟨rs.map BindingRecord.atSessionLoss, ?_⟩
  rw [enterResync, sessionLoss, raisePart_eq, purged]
  rfl

theorem State.enterResync_record (s : State) (b : BindingNo) :
    s.enterResync.record b = (s.purge.record b).atSessionLoss := s.sessionLoss_record .resync b

/-- Table 8-B: a notice that waits stays in DRAIN while frames are in flight, and awaits the session otherwise. -/
theorem BindingRecord.lossPhase_eq (r : BindingRecord) :
    r.lossPhase = if r.phase = .drain ∧ 0 < r.inFlight then .drain else .awaitSession := by
  unfold lossPhase
  cases r.phase <;> simp

section
variable {r : BindingRecord}

/-- Table 8-B: a LIVE record announces its binding anew. -/
theorem BindingRecord.atSessionLoss_live (state : r.state = .live) : r.atSessionLoss = { r with
    announced := false, state := .announcing, lease := none, run := 0, consecutiveBad := 0, trial := none
    phase := if 0 < r.inFlight then .drain else .awaitSession } := by
  simp only [atSessionLoss, state]

theorem BindingRecord.atSessionLoss_announcing (state : r.state = .announcing) : r.atSessionLoss = { r with
    announced := false
    phase := if r.phase = .drain ∧ 0 < r.inFlight then .drain else .awaitSession } := by
  cases r
  subst state
  simp only [atSessionLoss, lossPhase_eq]

theorem BindingRecord.atSessionLoss_retiring (state : r.state = .retiring) : r.atSessionLoss = { r with
    announced := false, bindPending := false
    phase := if r.phase = .drain ∧ 0 < r.inFlight then .drain else .awaitSession } := by
  cases r
  subst state
  simp only [atSessionLoss, lossPhase_eq]

/-- Table 8-B: the states that have no notice lose the announced flag alone. -/
theorem BindingRecord.atSessionLoss_other (live : r.state ≠ .live) (announcing : r.state ≠ .announcing)
    (retiring : r.state ≠ .retiring) : r.atSessionLoss = { r with announced := false } := by
  simp only [atSessionLoss]
  split
  next state => exact absurd state live
  next state => exact absurd state announcing
  next state => exact absurd state retiring
  all_goals rfl

end

/-- Settles O35: the purge, then Table 8-B record by record. -/
theorem sessionLossMovesRecords : Obligations.SessionLossMovesRecords := by
  intro s
  refine ⟨fun hears up => ?_, fun hears outside => ?_, ?_⟩
  · exact (returnEvent_hears hears _).trans (by rw [if_pos up])
  · exact (returnEvent_hears hears _).trans (by rw [if_neg outside])
  intro t removed
  obtain ⟨rs, frame⟩ := s.enterResync_frame
  have frame : t = _ := frame
  refine ⟨by rw [frame], by rw [frame], by rw [frame], by rw [frame], by rw [frame], ?_, by rw [frame]⟩
  intro b r n r'
  have lost : t.record b = BindingRecord.atSessionLoss { r with inFlight := r'.inFlight, withheld := r'.withheld } := by
    show s.enterResync.record b = _
    rw [s.enterResync_record, s.purge_record]
  split
  next state => exact lost.trans (BindingRecord.atSessionLoss_live state)
  next state => exact lost.trans (BindingRecord.atSessionLoss_announcing state)
  next state => exact lost.trans (BindingRecord.atSessionLoss_retiring state)
  all_goals
    next state => exact lost.trans (BindingRecord.atSessionLoss_other (by simp [state]) (by simp [state]) (by simp [state]))

/-! ### Line up and line down (R132, R138, R153) -/

/-- Table 8-B: session loss leaves no notice in DRAIN with nothing in flight. -/
theorem BindingRecord.atSessionLoss_drains (r : BindingRecord) :
    r.atSessionLoss.state ≠ .announcing ∧ r.atSessionLoss.state ≠ .retiring ∨
      ¬(r.atSessionLoss.phase = .drain ∧ r.atSessionLoss.inFlight = 0) := by
  by_cases notifies : r.state = .live ∨ r.state = .announcing ∨ r.state = .retiring
  · refine .inr fun ⟨phase, flight⟩ => ?_
    rcases notifies with state | state | state
    · simp only [atSessionLoss_live state] at phase flight
      simp [flight] at phase
    · simp only [atSessionLoss_announcing state] at phase flight
      simp [flight] at phase
    · simp only [atSessionLoss_retiring state] at phase flight
      simp [flight] at phase
  · obtain ⟨live, announcing, retiring⟩ := not_or.mp notifies |>.imp id not_or.mp
    rw [atSessionLoss_other live announcing retiring]
    exact .inl ⟨announcing, retiring⟩

/-- R153: the session lost with the line has moved every drained notice on already. -/
theorem State.moveDrained_enterResync (s : State) (b : BindingNo) : s.enterResync.moveDrained b = s.enterResync := by
  have lost := BindingRecord.atSessionLoss_drains (s.purge.record b)
  rw [← s.enterResync_record] at lost
  exact lost.elim (fun ⟨announcing, retiring⟩ => moveDrained_of_state announcing retiring) moveDrained_of_not

section
variable {s : State} {b : BindingNo} {r : BindingRecord}

theorem State.sessionLineDown_up (up : s.notice.session = .up) : s.sessionLineDown = s.enterResync := by
  rw [sessionLineDown, up]

/-- Table 8-C: outside UP the line-down event reads and changes no record. -/
theorem State.sessionLineDown_putRecord (outside : s.notice.session ≠ .up) :
    (s.putRecord b r).sessionLineDown = s.sessionLineDown.putRecord b r := by
  simp only [sessionLineDown, putRecord_notice]
  split
  next up => exact absurd up outside
  all_goals rfl

/-- R153: a record that the cut-off did not drain does not move on. -/
theorem State.moveDrained_sessionLineDown (stays : s.notice.session = .up ∨ ¬(r.phase = .drain ∧ r.inFlight = 0)) :
    (s.putRecord b r).sessionLineDown.moveDrained b = (s.putRecord b r).sessionLineDown := by
  by_cases up : s.notice.session = .up
  · rw [sessionLineDown_up (s := s.putRecord b r) up, moveDrained_enterResync]
  · rw [sessionLineDown_putRecord up, moveDrained_putRecord_of_not (stays.resolve_left up)]

/-- R153, R116: a record that the cut-off drained outside UP awaits the session. -/
theorem State.moveDrained_sessionLineDown_awaits (outside : s.notice.session ≠ .up) (phase : r.phase = .drain)
    (flight : r.inFlight = 0) (state : r.state = .announcing ∨ r.state = .retiring ∧ r.announced = false) :
    (s.putRecord b r).sessionLineDown.moveDrained b = (s.putRecord b { r with phase := .awaitSession }).sessionLineDown := by
  rw [sessionLineDown_putRecord outside, sessionLineDown_putRecord outside,
    moveDrained_awaits s.sessionLineDown_effect.2 phase flight state]

end

section
variable {s : State}

theorem execLineUp_down (awake : s.awake) (down : s.line = .down) :
    exec .lineUp s = .next { s.helloAtLineUp with line := .up }.arbitrate :=
  (takeEvent_awake awake _).trans (by rw [if_pos down])

theorem execLineUp_up (awake : s.awake) (up : s.line = .up) : exec .lineUp s = .next s :=
  (takeEvent_awake awake _).trans (by rw [if_neg (by simp [up])])

theorem execLineDown_down (awake : s.awake) (down : s.line = .down) : exec .lineDown s = .next s :=
  (takeEvent_awake awake _).trans (by rw [if_neg (by simp [down])])

theorem execLineDown_unnamed (awake : s.awake) (up : s.line = .up) (record : s.sendingRecord = none) :
    exec .lineDown s = .next { s.cutOff with line := .down }.sessionLineDown := by
  show execLineDown s = _
  simp only [execLineDown, takeEvent_awake awake, up, if_true, record]

theorem execLineDown_named {b : BindingNo} (awake : s.awake) (up : s.line = .up) (record : s.sendingRecord = some b) :
    exec .lineDown s = .next ({ s.cutOff with line := .down }.sessionLineDown.moveDrained b) := by
  show execLineDown s = _
  simp only [execLineDown, takeEvent_awake awake, up, if_true, record]

theorem State.sendingItem_data {bytes : List Byte} (output : s.trunk.output = .busy .data bytes) :
    s.sendingItem = s.sending := by rw [sendingItem, output]

/-- R138: the cut-off of a DATA frame drops its descriptor. -/
theorem State.cutOff_data {bytes : List Byte} {d : Descriptor} (output : s.trunk.output = .busy .data bytes)
    (sending : s.sending = some d) : s.cutOff = { s.removeSending.dropDescriptor d with trunk.output := .idle } := by
  simp only [cutOff, output, sending]

/-- R138: nothing else of an item in transmission is kept. -/
theorem State.cutOff_other (other : ∀ bytes, s.trunk.output ≠ .busy .data bytes) :
    s.cutOff = { s with trunk.output := .idle } ∧ s.sendingItem = none := by
  unfold cutOff sendingItem
  split
  next bytes output => exact absurd output (other bytes)
  next => exact ⟨rfl, rfl⟩

end

/-- Settles O27: the cut-off by what was in transmission, then Table 8-C, then the notice that the cut-off drained. -/
theorem trunkLineEvents : Obligations.TrunkLineEvents := by
  intro s awake
  refine ⟨fun down => ⟨execLineDown_down awake down, execLineUp_down awake down⟩, ?_⟩
  intro up down dropped lost
  have lost_eq (u : State) (session : u.notice.session = s.notice.session) : u.sessionLineDown = lost u := by
    rw [State.sessionLineDown, session]
    simp only [lost]
    cases s.notice.session <;> rfl
  refine ⟨execLineUp_up awake up, fun other => ?_, ?_⟩
  · obtain ⟨cut, item⟩ := State.cutOff_other other
    rw [execLineDown_unnamed awake up (by rw [State.sendingRecord, item]; rfl), cut]
    exact congrArg Host.Outcome.next (lost_eq down rfl)
  intro d bytes output sending
  have cut : s.cutOff = { s.removeSending.dropDescriptor d with trunk.output := .idle } := State.cutOff_data output sending
  have record : s.sendingRecord = d.binding := by
    rw [State.sendingRecord, State.sendingItem_data output, State.sending, sending]
    rfl
  refine ⟨fun none => ?_, ?_⟩
  · have cut : { s.cutOff with line := .down } = dropped d := by
      rw [cut, State.dropDescriptor, none]
      rfl
    rw [execLineDown_unnamed awake up (record.trans none), cut, lost_eq (dropped d) rfl]
  intro b binding r low
  have cut : { s.cutOff with line := .down } = (dropped d).putRecord b low := by
    rw [cut, State.dropDescriptor, binding]
    rfl
  rw [execLineDown_named awake up (record.trans binding), cut]
  refine ⟨fun stays => ?_, fun outside phase flight state => ?_⟩
  · rw [State.moveDrained_sessionLineDown, lost_eq ((dropped d).putRecord b low) rfl]
    exact stays.imp id fun h ⟨phase, flight⟩ => h ⟨phase, Nat.sub_eq_zero_iff_le.mp flight⟩
  · have flight : low.inFlight = 0 := Nat.sub_eq_zero_of_le flight
    rw [State.moveDrained_sessionLineDown_awaits (s := dropped d) (r := low) outside phase flight state,
      lost_eq ((dropped d).putRecord b { low with phase := .awaitSession }) rfl]

end Sys2Proof.Machine

namespace Sys2Proof.Machine

/-! ### The session commands (R146, R147, R191) -/

/-- R191: no begin changes the session state or number. -/
theorem State.arbitrate_sessionBytes (s : State) : s.arbitrate.sessionBytes = s.sessionBytes := by
  by_cases idle : s.trunk.output = .idle
  · by_cases up : s.line = .up
    · cases offer : s.noticeOffer with
      | some o =>
        rw [arbitrate_of_offer idle up offer]
        cases o with
        | hello h => simp only [beginOffer, beginHello, sessionBytes, startItem_notice, countRetransmission_notice]
        | again e =>
          simp only [beginOffer, beginAgain, sessionBytes, startItem_notice, updateEntry, countRetransmission_notice]
        | first b x => rfl
      | none =>
        rw [arbitrate_of_no_offer idle up offer]
        cases turn : s.chosen with
        | none => rw [chooseData_of_none turn]
        | some d => rw [chooseData_of_some turn, beginData]; split <;> rfl
    · rw [arbitrate_of_down up]
  · rw [arbitrate_of_busy idle]

section
variable {s : State}

/-- R146, R147: the open of a CLOSED session. -/
theorem State.issueHello_opened (s : State) :
    ({ s with notice.session := .opening }.issueHello).raisePart .session = { s with
      notice := { s.notice with session := .opening, number := s.notice.number + 1, hello := some ⟨0, none, true⟩ }
      attention := { s.attention with part := s.partAfter 0x08#6 } } := by
  rw [raisePart_eq]
  rfl

/-- R146: a close loses the session as the entry to RESYNC does, and issues no HELLO. -/
theorem State.closeSession_eq (s : State) : s.closeSession = { s.enterResync with
    notice := { s.enterResync.notice with session := .closed, number := s.notice.number, hello := none } } := by
  obtain ⟨rs, purged⟩ := s.purge_frame
  simp only [closeSession, enterResync, sessionLoss, raisePart_eq, purged]
  rfl

theorem State.closeSession_host (s : State) : s.closeSession.host = s.host := by
  obtain ⟨_, _, _, _, lost, _⟩ := s.sessionLoss_frame .closed
  rw [closeSession, lost]

theorem execTrunkOpen_closed (h : s.inHand 0x10#8) (closed : s.notice.session = .closed) {u : State}
    (opened : (({ s with notice.session := .opening }.issueHello).raisePart .session).arbitrate = u) :
    exec .trunkOpen s = .next (u.post .ok u.sessionBytes) := by
  show execTrunkOpen s = _
  simp only [execTrunkOpen, commandEvent_inHand h, closed, opened]

theorem execTrunkOpen_refused (h : s.inHand 0x10#8) (session : s.notice.session ≠ .closed) :
    exec .trunkOpen s = .next (s.refuse .sessionState) := by
  show execTrunkOpen s = _
  simp only [execTrunkOpen, commandEvent_inHand h]
  cases state : s.notice.session with
  | closed => exact absurd state session
  | opening | up | resync | failed => rfl

theorem execTrunkClose_closed (h : s.inHand 0x11#8) (closed : s.notice.session = .closed) :
    exec .trunkClose s = .next (s.post .already s.sessionBytes) := by
  show execTrunkClose s = _
  simp only [execTrunkClose, commandEvent_inHand h, closed]

theorem execTrunkClose_failed (h : s.inHand 0x11#8) (failed : s.notice.session = .failed) :
    exec .trunkClose s = .next (s.closeFailed.post .ok s.closeFailed.sessionBytes) := by
  show execTrunkClose s = _
  simp only [execTrunkClose, commandEvent_inHand h, failed]

theorem execTrunkClose_open (h : s.inHand 0x11#8) (closed : s.notice.session ≠ .closed)
    (failed : s.notice.session ≠ .failed) :
    exec .trunkClose s = .next (s.closeSession.arbitrate.post .ok s.closeSession.arbitrate.sessionBytes) := by
  show execTrunkClose s = _
  simp only [execTrunkClose, commandEvent_inHand h]
  cases state : s.notice.session with
  | closed => exact absurd state closed
  | failed => exact absurd state failed
  | opening | up | resync => rfl

/-- R182, R191: a response that carries the session state and number which the event leaves. -/
theorem State.posted_session {c : Instr} {u : State} {r : Result} {data : List Byte}
    (run : exec c s = .next (u.post r u.sessionBytes)) (host : u.host = s.host) (answer : u.sessionBytes = data) :
    ∃ t, exec c s = .next t ∧ s.answers t r.code data ∧ { t with host := s.host } = u := by
  have short : u.sessionBytes.length ≤ 30 := by simp [sessionBytes]
  rw [← answer]
  exact posted run host short

end

/-- Settles O50: each command by the session state, its response read from the state that the event leaves. -/
theorem trunkCommands : Obligations.TrunkCommands := by
  intro s raised
  refine ⟨fun h => ⟨fun closed => ?_, fun session => ?_⟩,
    fun h => ⟨fun closed => ?_, fun failed => ?_, fun closed failed => ?_⟩⟩
  · refine State.posted_session (execTrunkOpen_closed h closed ?_) (State.arbitrate_host _) (State.arbitrate_sessionBytes _)
    rw [State.issueHello_opened]
  · exact State.refusedWith_of (execTrunkOpen_refused h session)
  · exact State.posted_session (execTrunkClose_closed h closed) rfl (by rw [State.sessionBytes, closed]; rfl)
  · have run := execTrunkClose_failed h failed
    rw [State.closeFailed, State.raisePart_eq] at run
    exact State.posted_session run rfl rfl
  · have run := execTrunkClose_open h closed failed
    have host := s.closeSession.arbitrate_host.trans s.closeSession_host
    rw [← State.closeSession_eq]
    refine State.posted_session run host (s.closeSession.arbitrate_sessionBytes.trans ?_)
    rw [State.closeSession_eq]
    rfl

end Sys2Proof.Machine

namespace Sys2Proof.Machine

/-! ### The HELLO's timer (R148) -/

section
variable {s : State}

theorem execHelloTimerExpiry_due {h : Hello} (awake : s.awake) (hello : s.notice.hello = some h) (timer : h.timer = some 0) :
    exec .helloTimerExpiry s = .next (if h.count < Config.maxTransmissions then
      { s with notice.hello := some { h with timer := none, due := true } } else s.exhaustHello).arbitrate := by
  show execHelloTimerExpiry s = _
  simp only [execHelloTimerExpiry, takeEvent_awake awake, hello, timer, if_true]

theorem execHelloTimerExpiry_none (awake : s.awake) (timer : ∀ h, s.notice.hello = some h → h.timer ≠ some 0) :
    exec .helloTimerExpiry s = .next s := by
  show execHelloTimerExpiry s = _
  cases hello : s.notice.hello with
  | none => simp only [execHelloTimerExpiry, takeEvent_awake awake, hello]
  | some h => simp only [execHelloTimerExpiry, takeEvent_awake awake, hello, if_neg (timer h hello)]

/-- R148: at exhaustion the slot is empty and the session FAILED. -/
theorem State.exhaustHello_eq (s : State) : s.exhaustHello = { s with
    notice.hello := none, notice.session := .failed, attention.part := s.partAfter 0x08#6 } := by
  rw [exhaustHello, raisePart_eq]
  rfl

/-! ### A window entry's timer (R79, R80, R157) -/

theorem execNoticeTimerExpiry_due {q : Byte} {e : WindowEntry} (awake : s.awake) (entry : s.windowEntry q = some e)
    (timer : e.timer = some 0) : exec (.noticeTimerExpiry q) s = .next (s.timeoutEntry e).arbitrate := by
  show execNoticeTimerExpiry q s = _
  simp only [execNoticeTimerExpiry, takeEvent_awake awake, entry, timer, if_true]

theorem execNoticeTimerExpiry_none {q : Byte} (awake : s.awake)
    (timer : ∀ e, s.windowEntry q = some e → e.timer ≠ some 0) : exec (.noticeTimerExpiry q) s = .next s := by
  show execNoticeTimerExpiry q s = _
  cases entry : s.windowEntry q with
  | none => simp only [execNoticeTimerExpiry, takeEvent_awake awake, entry]
  | some e => simp only [execNoticeTimerExpiry, takeEvent_awake awake, entry, if_neg (timer e entry)]

/-- R155, R157: an entry that becomes due stops its timer and takes its place once. -/
theorem State.makeDue_eq (s : State) (q : Byte) : s.makeDue q = { s with
    notice.window := s.notice.window.map fun (x : WindowEntry) => if x.seq = q then { x with timer := none } else x
    notice.retransmit := if q ∈ s.notice.retransmit then s.notice.retransmit else s.notice.retransmit ++ [q] } := by
  by_cases due : q ∈ s.notice.retransmit
  · simp [makeDue, updateEntry, due]
  · simp [makeDue, updateEntry, due]

theorem State.timeoutEntry_below {e : WindowEntry} (count : e.count < 4) : s.timeoutEntry e = s.makeDue e.seq :=
  if_pos count

theorem State.timeoutEntry_bind {e : WindowEntry} (count : 4 ≤ e.count) (kind : e.kind = .bind) :
    s.timeoutEntry e = s.enterResync := by
  rw [timeoutEntry, if_neg (Nat.not_lt.mpr count), exhaust, kind]

theorem State.timeoutEntry_unbind {e : WindowEntry} (count : 4 ≤ e.count) (kind : e.kind = .unbind) :
    s.timeoutEntry e = s.exhaustUnbind e := by
  rw [timeoutEntry, if_neg (Nat.not_lt.mpr count), exhaust, kind]

/-- R79, R157: what the exhaustion of an UNBIND leaves before the stranded count is compared with its threshold. -/
def State.strandedBy (s : State) (e : WindowEntry) : State :=
  { s with
    notice.window := s.notice.window.filter fun x => x.seq != e.seq
    notice.retransmit := s.notice.retransmit.erase e.seq
    tags.table := s.tags.table.set e.tag (.stranded e.seq), tags.strandedCount := s.tags.strandedCount + 1
    attention.part := s.partAfter 0x04#6 }.putRecord e.binding
      (s.retiredOrFree { s.record e.binding with tag := none, strandedNote := true })

/-- R80: the threshold is compared with the count that the stranding leaves. -/
theorem State.exhaustUnbind_eq (s : State) (e : WindowEntry) : s.exhaustUnbind e =
    if s.tags.strandedThreshold ≤ s.tags.strandedCount + 1 then (s.strandedBy e).enterResync else s.strandedBy e := by
  have ends : (((s.removeEntry e.seq).strandTag e.binding e.tag e.seq).updateRecord e.binding fun r =>
      { r with strandedNote := true }).completeRetirement e.binding = s.strandedBy e := by
    rw [completeRetirement_eq, strandTag_eq, updateRecord_eq]
    simp only [record_putRecord_self, putRecord_putRecord]
    rfl
  rw [exhaustUnbind, ends]
  rfl

end

/-- Settles O24: by the transmission count, and for an entry at count 4 by its kind and the stranded threshold. -/
theorem noticeTimerExpiries : Obligations.NoticeTimerExpiries := by
  intro s awake
  refine ⟨fun h hello timer => ⟨fun below => ?_, fun spent => ?_⟩, execHelloTimerExpiry_none awake,
    fun q e entry timer => ?_, fun q timer => execNoticeTimerExpiry_none awake timer⟩
  · rw [execHelloTimerExpiry_due awake hello timer, if_pos below]
  · rw [execHelloTimerExpiry_due awake hello timer, if_neg (Nat.not_lt.mpr spent), State.exhaustHello_eq]
  · have run := execNoticeTimerExpiry_due awake entry timer
    obtain rfl := State.windowEntry_seq entry
    refine ⟨fun below => ?_, fun spent bind => ?_, fun spent unbind low => ?_, fun spent unbind met => ?_⟩
    · rw [run, State.timeoutEntry_below below, State.makeDue_eq]
    · rw [run, State.timeoutEntry_bind spent bind]
    · rw [run, State.timeoutEntry_unbind spent unbind, State.exhaustUnbind_eq, if_neg (Nat.not_le.mpr low)]
      rfl
    · rw [run, State.timeoutEntry_unbind spent unbind, State.exhaustUnbind_eq, if_pos met]
      rfl

end Sys2Proof.Machine

namespace Sys2Proof.Machine

/-! ### The sequence number of a new entry (R156) -/

/-- R156: the counter passes over numbers of entries alone, at most one for each entry. -/
theorem freshSeq_passes (w : List WindowEntry) (n : Nat) (c : Byte) : ∃ k ≤ n, freshSeq w n c = c + BitVec.ofNat 8 k ∧
    ∀ j < k, c + BitVec.ofNat 8 j ∈ w.map (·.seq) := by
  have stops : ∃ k ≤ n, c = c + BitVec.ofNat 8 k ∧ ∀ j < k, c + BitVec.ofNat 8 j ∈ w.map (·.seq) :=
    ⟨0, Nat.zero_le n, (BitVec.add_zero c).symm, nofun⟩
  induction n generalizing c with
  | zero => exact stops
  | succ n ih =>
    rw [freshSeq]
    split
    next taken =>
      have shift (j : Nat) : c + BitVec.ofNat 8 (j + 1) = c + 1 + BitVec.ofNat 8 j := by
        rw [BitVec.ofNat_add, BitVec.add_assoc, BitVec.add_comm (BitVec.ofNat 8 j)]; rfl
      obtain ⟨k, bound, number, passed⟩ := ih (c + 1) ⟨0, Nat.zero_le n, (BitVec.add_zero _).symm, nofun⟩
      refine ⟨k + 1, Nat.succ_le_succ bound, by rw [shift, number], fun j hj => ?_⟩
      cases j with
      | zero => simpa [List.any_eq_true] using taken
      | succ j => rw [shift]; exact passed j (Nat.lt_of_succ_lt_succ hj)
    next => exact stops

/-! ### What the Notice Unit offers (R155) -/

section
variable {s : State}

theorem State.noticeOffer_hello {h : Hello} (hello : s.notice.hello = some h) (due : h.due = true) :
    s.noticeOffer = some (.hello h) := by
  simp only [noticeOffer, hello, Option.filter, due, if_true]

theorem State.noticeOffer_of_no_hello (noHello : ∀ h, s.notice.hello = some h → h.due = false) :
    s.noticeOffer = (s.dueEntry.map Offer.again).or s.owedOffer := by
  have filtered : s.notice.hello.filter (·.due) = none := by
    cases hello : s.notice.hello with
    | none => rfl
    | some h => simp [noHello h hello]
  rw [noticeOffer, filtered]
  cases s.dueEntry <;> rfl

theorem State.noticeOffer_again {q : Byte} {rest : List Byte} {e : WindowEntry}
    (noHello : ∀ h, s.notice.hello = some h → h.due = false) (due : s.notice.retransmit = q :: rest)
    (entry : s.windowEntry q = some e) : s.noticeOffer = some (.again e) := by
  have longest : s.dueEntry = some e := by rw [dueEntry, due, List.findSome?_cons, entry]
  rw [noticeOffer_of_no_hello noHello, longest]
  rfl

theorem State.noticeOffer_first {b : BindingNo} {rest : List BindingNo} {x : Tag}
    (noHello : ∀ h, s.notice.hello = some h → h.due = false) (due : s.notice.retransmit = [])
    (up : s.notice.session = .up) (room : s.notice.window.length < 4) (owed : s.notice.owed = b :: rest)
    (tag : (s.record b).tag = some x) : s.noticeOffer = some (.first b x) := by
  have nothing : s.dueEntry = none := by rw [dueEntry, due]; rfl
  rw [noticeOffer_of_no_hello noHello, nothing, owedOffer, if_pos ⟨up, room⟩, owed]
  exact congrArg (Option.map (Offer.first b)) tag

/-! ### The begins of a notice (R148, R157, R164) -/

/-- R164: a begin counts as a retransmission from the second on. -/
theorem State.countRetransmission_eq (s : State) (n : Nat) : s.countRetransmission n = { s with counters := { s.counters with
    retransmitted := if 1 ≤ n then satSucc s.counters.retransmitted else s.counters.retransmitted } } := by
  unfold countRetransmission
  split <;> rfl

theorem State.beginHello_eq (s : State) (h : Hello) : s.beginHello h = { s with
    counters := { s.counters with
      retransmitted := if 1 ≤ h.count then satSucc s.counters.retransmitted else s.counters.retransmitted }
    notice := { s.notice with hello := some { h with due := false, count := h.count + 1 } }
    trunk := { s.trunk with output := .busy .hello (helloBytes s.notice.number) } } := by
  rw [beginHello, countRetransmission_eq]
  rfl

theorem State.beginAgain_eq (s : State) (e : WindowEntry) : s.beginAgain e = { s with
    counters := { s.counters with
      retransmitted := if 1 ≤ e.count then satSucc s.counters.retransmitted else s.counters.retransmitted }
    notice := { s.notice with
      retransmit := s.notice.retransmit.erase e.seq
      window := s.notice.window.map fun (x : WindowEntry) =>
        if x.seq = e.seq then { x with count := x.count + 1, timer := none } else x }
    trunk := { s.trunk with output := .busy (.notice e.seq) (s.noticeBytes e.kind e.seq e.binding e.tag) } } := by
  rw [beginAgain, countRetransmission_eq]
  rfl

/-- R196: a notice is composed of fields that its begin leaves on the record. -/
theorem State.noticeBytes_congr {t : State} {b : BindingNo} (key : (t.record b).key = (s.record b).key)
    (geometry : (t.record b).geometry = (s.record b).geometry) (kind : NoticeKind) (q : Byte) (x : Tag) :
    t.noticeBytes kind q b x = s.noticeBytes kind q b x := by
  simp only [noticeBytes, bindBytes, key, geometry]

theorem State.beginFirst_eq {b : BindingNo} {rest : List BindingNo} (owed : s.notice.owed = b :: rest) (x : Tag) :
    s.beginFirst b x = { s with
      notice := { s.notice with
        owed := rest, sequence := s.nextSeq + 1
        window := s.notice.window ++ [(⟨s.nextSeq, noticeKindOf (s.record b).state, b, x, 1, none⟩ : WindowEntry)] }
      trunk := { s.trunk with
        output := .busy (.notice s.nextSeq) (s.noticeBytes (noticeKindOf (s.record b).state) s.nextSeq b x) } }.putRecord b
          { s.record b with phase := .outstanding } := by
  rw [beginFirst, noticeBytes_congr (s := s) (by rw [record_updateRecord_self]; rfl) (by rw [record_updateRecord_self]; rfl),
    owed]
  rfl

theorem State.noticeBytes_bind {b : BindingNo} {g : Geometry} (geometry : (s.record b).geometry = some g) (q : Byte)
    (x : Tag) : s.noticeBytes .bind q b x = withCrc [0x00#8, 0x02#8, q, tagByte x, keyByte (s.record b).key,
      byteOf g.format.val, byteOf g.cells] := by
  simp only [noticeBytes, bindBytes, geometry, Option.map_some, Option.getD_some]

end

/-- Settles O31: what `State.noticeOffer` offers, and the begin of each offer. -/
theorem noticeBeginTakesEntry : Obligations.NoticeBeginTakesEntry := by
  intro s idle up retransmitted out key
  refine ⟨fun h hello due => ?_, fun noHello => ⟨fun q rest e due entry => ?_, ?_⟩⟩
  · exact (State.arbitrate_of_offer idle up (State.noticeOffer_hello hello due)).trans (s.beginHello_eq h)
  · have begun := (State.arbitrate_of_offer idle up (State.noticeOffer_again noHello due entry)).trans (s.beginAgain_eq e)
    obtain rfl := State.windowEntry_seq entry
    rw [due, List.erase_cons_head] at begun
    refine ⟨fun kind => ?_, fun g kind geometry => ?_⟩
    · rw [begun, kind]
      rfl
    · rw [begun, kind, State.noticeBytes_bind geometry]
      rfl
  · intro b rest x due session room owed tag r
    have begun := (State.arbitrate_of_offer idle up (State.noticeOffer_first noHello due session room owed tag)).trans
      (State.beginFirst_eq owed x)
    obtain ⟨k, bound, number, passed⟩ := freshSeq_passes s.notice.window s.notice.window.length s.notice.sequence
    refine ⟨k, s.nextSeq, bound, number, State.nextSeq_fresh (room.trans (by decide)), passed, ?_⟩
    intro first
    refine ⟨fun retiring => ?_, fun g announcing geometry => ?_⟩
    · have kind : noticeKindOf (s.record b).state = .unbind := congrArg noticeKindOf retiring
      rw [begun, kind]
      rfl
    · have kind : noticeKindOf (s.record b).state = .bind := congrArg noticeKindOf announcing
      rw [begun, kind, State.noticeBytes_bind geometry]
      rfl

end Sys2Proof.Machine

namespace Sys2Proof.Machine

/-! ### The replies to notices (R158) -/

section
variable {s : State} {q : Byte}

theorem execAck_entry {e : WindowEntry} (hears : s.hears) (entry : s.windowEntry q = some e) :
    exec (.ack q) s = .next ((s.acknowledge e).grantIfReleased s).arbitrate := by
  show execAck q s = _
  simp only [execAck, returnEvent_hears hears, entry]

theorem execAck_late (hears : s.hears) (entry : s.windowEntry q = none) :
    exec (.ack q) s = .next ((s.lateReply true q).grantIfReleased s).arbitrate := by
  show execAck q s = _
  simp only [execAck, returnEvent_hears hears, entry]

theorem execNak_entry {e : WindowEntry} {reason : NakReason} (hears : s.hears) (entry : s.windowEntry q = some e) :
    exec (.nak q reason) s = .next ((s.nakEntry e reason).grantIfReleased s).arbitrate := by
  show execNak q reason s = _
  simp only [execNak, returnEvent_hears hears, entry]

theorem execNak_late {reason : NakReason} (hears : s.hears) (entry : s.windowEntry q = none) :
    exec (.nak q reason) s = .next ((s.lateReply (reason == .unknownTag) q).grantIfReleased s).arbitrate := by
  show execNak q reason s = _
  simp only [execNak, returnEvent_hears hears, entry]

/-- An acknowledgement that leaves the tags as they are grants nothing. -/
theorem execAck_of_eq {e : WindowEntry} {u : State} (hears : s.hears) (entry : s.windowEntry q = some e)
    (answered : s.acknowledge e = u) (tags : u.tags = s.tags) : exec (.ack q) s = .next u.arbitrate := by
  rw [execAck_entry hears entry, answered, State.grantIfReleased_of_tags tags]

/-- R160: so does a refused BIND whose UNBIND becomes owed. -/
theorem execNak_of_eq {e : WindowEntry} {reason : NakReason} {u : State} (hears : s.hears)
    (entry : s.windowEntry q = some e) (answered : s.nakEntry e reason = u) (tags : u.tags = s.tags) :
    exec (.nak q reason) s = .next u.arbitrate := by
  rw [execNak_entry hears entry, answered, State.grantIfReleased_of_tags tags]

end

/-! ### An entry answered (R114, R159, R160) -/

section
variable {s : State} {e : WindowEntry}

/-- R77, R119: the record that held the released tag completes. -/
theorem State.releaseTag_completes {b : BindingNo} {x : Tag} (r : BindingRecord) (held : s.tagEntry x = .held b) :
    ((s.putRecord b r).releaseTag x).completeRetirement b =
      { s with tags := s.tags.releasing x }.putRecord b (s.retiredOrFree { r with tag := none }) := by
  rw [releaseTag_held (s := s.putRecord b r) held, completeRetirement_eq, putRecord_putRecord, record_putRecord_self,
    record_putRecord_self]
  exact putRecord_putRecord { s with tags := s.tags.releasing x } b r _

/-- R86, R159: the record of an acknowledged BIND goes LIVE. -/
theorem State.acknowledge_announcing (kind : e.kind = .bind) (state : (s.record e.binding).state = .announcing) :
    s.acknowledge e = (s.removeEntry e.seq).putRecord e.binding { s.record e.binding with
      state := .live, run := 0, consecutiveBad := 0, faults := 0, trial := none, phase := .none, announced := true
      lease := some (s.classOf e.binding).leaseLength, reasons := s.reasonsAfter (s.record e.binding).reasons 0x01#5 } := by
  have state : ((s.removeEntry e.seq).record e.binding).state = .announcing := state
  simp only [acknowledge, kind, state]
  exact enterLive_eq ..

/-- R114: the BIND of a RETIRING record is answered, and its UNBIND owed. -/
theorem State.acknowledge_retiring (kind : e.kind = .bind) (state : (s.record e.binding).state = .retiring) :
    s.acknowledge e = { s.removeEntry e.seq with notice.owed := s.notice.owed ++ [e.binding] }.putRecord e.binding
      { s.record e.binding with announced := true, bindPending := false, phase := .owed } := by
  have state : ((s.removeEntry e.seq).record e.binding).state = .retiring := state
  simp only [acknowledge, kind, state]
  simp only [answerBindPending, updateRecord_eq, putRecord_putRecord, oweNotice_putRecord, record_putRecord_self]
  rfl

theorem State.acknowledge_unbind (kind : e.kind = .unbind) (held : s.tagEntry e.tag = .held e.binding) :
    s.acknowledge e = { s.removeEntry e.seq with tags := s.tags.releasing e.tag }.putRecord e.binding
      (s.retiredOrFree { s.record e.binding with tag := none }) := by
  have ends := releaseTag_completes (s := s.removeEntry e.seq) (s.record e.binding) held
  rw [show (s.removeEntry e.seq).putRecord e.binding (s.record e.binding) = _ from
    putRecord_record (s.removeEntry e.seq) e.binding] at ends
  simp only [acknowledge, kind]
  exact ends

/-- R160: a refused first BIND releases the tag and completes the record. -/
theorem State.refuseBind_announcing (state : (s.record e.binding).state = .announcing)
    (announced : (s.record e.binding).announced = false) (held : s.tagEntry e.tag = .held e.binding) :
    s.refuseBind e = { s.removeEntry e.seq with tags := s.tags.releasing e.tag }.putRecord e.binding
      (s.retiredOrFree { s.record e.binding with cause := some .refused, tag := none }) := by
  have state : ((s.removeEntry e.seq).record e.binding).state = .announcing := state
  have announced : ((s.removeEntry e.seq).record e.binding).announced = false := announced
  simp only [refuseBind, state, announced]
  exact releaseTag_completes { s.record e.binding with cause := some .refused } held

/-- R160: a refused re-BIND retires the record, and its UNBIND is owed. -/
theorem State.refuseBind_announced (state : (s.record e.binding).state = .announcing)
    (announced : (s.record e.binding).announced = true) :
    s.refuseBind e = { s.removeEntry e.seq with notice.owed := s.notice.owed ++ [e.binding] }.putRecord e.binding
      { (s.record e.binding).atRetirement .refused with phase := .owed } := by
  have state : ((s.removeEntry e.seq).record e.binding).state = .announcing := state
  have announced : ((s.removeEntry e.seq).record e.binding).announced = true := announced
  simp only [refuseBind, state, announced]
  simp only [updateRecord_eq, oweNotice_putRecord]
  rfl

/-- R114: a RETIRING record whose first BIND is refused completes with its cause. -/
theorem State.refuseBind_retiring (state : (s.record e.binding).state = .retiring)
    (announced : (s.record e.binding).announced = false) (held : s.tagEntry e.tag = .held e.binding) :
    s.refuseBind e = { s.removeEntry e.seq with tags := s.tags.releasing e.tag }.putRecord e.binding
      (s.retiredOrFree { s.record e.binding with bindPending := false, tag := none }) := by
  have state : ((s.removeEntry e.seq).record e.binding).state = .retiring := state
  have announced : ((s.removeEntry e.seq).record e.binding).announced = false := announced
  simp only [refuseBind, state, announced]
  exact releaseTag_completes { s.record e.binding with bindPending := false } held

theorem State.refuseBind_retiring_announced (state : (s.record e.binding).state = .retiring)
    (announced : (s.record e.binding).announced = true) :
    s.refuseBind e = { s.removeEntry e.seq with notice.owed := s.notice.owed ++ [e.binding] }.putRecord e.binding
      { s.record e.binding with bindPending := false, phase := .owed } := by
  have state : ((s.removeEntry e.seq).record e.binding).state = .retiring := state
  have announced : ((s.removeEntry e.seq).record e.binding).announced = true := announced
  simp only [refuseBind, state, announced]
  simp only [answerBindPending, updateRecord_eq, oweNotice_putRecord]
  rfl

end

/-! ### Late and stray replies (R82, R163) -/

section
variable {s : State} {q : Byte}

/-- R82: one tag alone is STRANDED under the number. -/
theorem State.strandedWith_eq_singleton {x : Tag} :
    s.strandedWith q = [x] ↔ ∀ y, s.tagEntry y = .stranded q ↔ y = x := by
  have nodup : (s.strandedWith q).Nodup := (List.nodup_finRange 31).filter _
  rw [← List.perm_singleton, List.perm_ext_iff_of_nodup nodup (List.nodup_singleton x)]
  simp [strandedWith]

theorem State.lateReply_releases {x : Tag} (only : ∀ y, s.tagEntry y = .stranded q ↔ y = x) :
    s.lateReply true q = { s with
      tags := { s.tags.releasing x with strandedCount := s.tags.strandedCount - 1 } } := by
  simp only [lateReply, strandedWith_eq_singleton.mpr only]
  exact releaseTag_stranded ((only x).mpr rfl)

theorem State.lateReply_stray {confirms : Bool}
    (stray : confirms = true → ¬∃ x, ∀ y, s.tagEntry y = .stranded q ↔ y = x) :
    s.lateReply confirms q = s.countStray := by
  unfold lateReply
  split
  next x only => exact absurd ⟨x, strandedWith_eq_singleton.mp only⟩ (stray rfl)
  next => rfl

theorem State.grantIfReleased_countStray (s : State) : s.countStray.grantIfReleased s = s.countStray :=
  grantIfReleased_of_tags rfl

end

/-- Settles O33: an entry's answer by its kind and its record's state, and a late reply by the tags STRANDED under its
number. -/
theorem ackOutcomes : Obligations.AckOutcomes := by
  intro s q hears
  refine ⟨fun e entry => ?_, fun entry => ⟨fun x only => ?_, fun stray => ?_⟩⟩
  · obtain rfl := State.windowEntry_seq entry
    refine ⟨fun kind state => ?_, fun kind state => ?_, fun kind held => ?_⟩
    · exact execAck_of_eq hears entry (State.acknowledge_announcing kind state) rfl
    · exact execAck_of_eq hears entry (State.acknowledge_retiring kind state) rfl
    · rw [execAck_entry hears entry, State.acknowledge_unbind kind held]
      rfl
  · rw [execAck_late hears entry, State.lateReply_releases only]
  · rw [execAck_late hears entry, State.lateReply_stray fun _ => stray, s.grantIfReleased_countStray]
    rfl

/-! ### A NAK taken as a timeout (R161) -/

section
variable {s : State} {q : Byte}

theorem State.windowEntry_updateEntry {f : WindowEntry → WindowEntry} {e : WindowEntry} (seq : ∀ x, (f x).seq = x.seq)
    (entry : s.windowEntry q = some e) : (s.updateEntry q f).windowEntry q = some (f e) := by
  have number : e.seq = q := windowEntry_seq entry
  have kept : (fun x : WindowEntry => x.seq == q) ∘ (fun x => if x.seq = q then f x else x) = fun x => x.seq == q := by
    funext x
    by_cases same : x.seq = q <;> simp [same, seq]
  rw [windowEntry, updateEntry, List.find?_map, kept, show s.notice.window.find? (·.seq == q) = some e from entry]
  simp [number]

theorem State.removeEntry_updateEntry {f : WindowEntry → WindowEntry} (seq : ∀ x, (f x).seq = x.seq) :
    (s.updateEntry q f).removeEntry q = s.removeEntry q := by
  have others (w : List WindowEntry) : (w.map fun x => if x.seq = q then f x else x).filter (fun x => x.seq != q) =
      w.filter fun x => x.seq != q := by
    induction w with
    | nil => rfl
    | cons x w ih => by_cases same : x.seq = q <;> simp [same, seq, ih]
  simp only [removeEntry, updateEntry, others]

/-- R155: an entry that becomes due keeps nothing of its timer. -/
theorem State.makeDue_updateEntry (timer : Option Nat) :
    (s.updateEntry q fun x => { x with timer := timer }).makeDue q = s.makeDue q := by
  have stopped (w : List WindowEntry) : ((w.map fun x => if x.seq = q then { x with timer := timer } else x).map
      fun x => if x.seq = q then { x with timer := none } else x) =
        w.map fun x => if x.seq = q then { x with timer := none } else x := by
    induction w with
    | nil => rfl
    | cons x w ih => by_cases same : x.seq = q <;> simp [same, ih]
  simp only [makeDue_eq, updateEntry, stopped]

theorem State.records_ext {s t : State} (h : ∀ b, s.record b = t.record b) : s.records = t.records :=
  Vector.ext fun i hi => h ⟨i, hi⟩

/-- R152: session loss reads nothing of the window. -/
theorem State.enterResync_setWindow (w : List WindowEntry) : { s with notice.window := w }.enterResync = s.enterResync := by
  obtain ⟨rs, lost⟩ := s.enterResync_frame
  obtain ⟨rs', lost'⟩ := { s with notice.window := w }.enterResync_frame
  have records : { s with notice.window := w }.enterResync.records = s.enterResync.records := records_ext fun b => by
    rw [enterResync_record, enterResync_record, purge_record, purge_record]
    rfl
  rw [lost, lost'] at records
  rw [lost, lost', show rs' = rs from records]
  rfl

/-- R157: a timeout reads nothing of the entry's timer. -/
theorem State.timeoutEntry_updateEntry (e : WindowEntry) (timer : Option Nat) :
    (s.updateEntry e.seq fun x => { x with timer := timer }).timeoutEntry { e with timer := timer } = s.timeoutEntry e := by
  by_cases below : e.count < 4
  · exact (timeoutEntry_below below).trans ((makeDue_updateEntry timer).trans (timeoutEntry_below below).symm)
  have spent : 4 ≤ e.count := Nat.not_lt.mp below
  have kinds : e.kind = .bind ∨ e.kind = .unbind := by cases e.kind <;> simp
  rcases kinds with kind | kind
  · exact (timeoutEntry_bind spent kind).trans ((enterResync_setWindow _).trans (timeoutEntry_bind spent kind).symm)
  · refine (timeoutEntry_unbind spent kind).trans (Eq.trans ?_ (timeoutEntry_unbind spent kind).symm)
    have removed := removeEntry_updateEntry (s := s) (q := e.seq) (f := fun x => { x with timer := timer }) fun _ => rfl
    simp only [exhaustUnbind, removed]

/-- R161: the NAK is the expiry of the entry's timer. -/
theorem execNak_timeout {e : WindowEntry} {reason : NakReason} (hears : s.hears) (entry : s.windowEntry q = some e)
    (timeout : s.nakEntry e reason = s.timeoutEntry e) :
    exec (.nak q reason) s = exec (.noticeTimerExpiry q) (s.updateEntry q fun x => { x with timer := some 0 }) := by
  have grants : (s.timeoutEntry e).grantIfReleased s = s.timeoutEntry e :=
    State.grantIfReleased_of_le (by rw [State.freeList_timeoutEntry])
  have stands := State.windowEntry_updateEntry (f := fun x => { x with timer := some 0 }) (fun _ => rfl) entry
  have awake : (s.updateEntry q fun x => { x with timer := some 0 }).awake := hears.1
  rw [execNak_entry hears entry, timeout, grants, execNoticeTimerExpiry_due awake stands rfl]
  obtain rfl := State.windowEntry_seq entry
  rw [State.timeoutEntry_updateEntry]

end

/-- Settles O34: Table 8-D by the entry's kind and the reason, and R160 by the record's state and announced flag. -/
theorem nakOutcomes : Obligations.NakOutcomes := by
  intro s q reason hears
  refine ⟨fun unknown kinds => ?_, fun known entry => ?_, fun e entry => ⟨fun timeout => ?_, fun kind full => ?_⟩⟩
  · subst unknown
    cases entry : s.windowEntry q with
    | none => rw [execNak_late hears entry, execAck_late hears entry]; rfl
    | some e =>
      rw [execNak_entry hears entry, execAck_entry hears entry]
      simp only [State.nakEntry, kinds e entry]
  · have stray : s.lateReply (reason == .unknownTag) q = s.countStray :=
      State.lateReply_stray fun confirms => absurd (beq_iff_eq.mp confirms) known
    rw [execNak_late hears entry, stray, s.grantIfReleased_countStray]
    rfl
  · refine execNak_timeout hears entry ?_
    rcases timeout with ⟨kind, refuses⟩ | ⟨kind, known⟩
    · cases reason with
      | noRoom => exact absurd rfl refuses
      | unknownTag | malformed => simp only [State.nakEntry, kind]
    · cases reason with
      | unknownTag => exact absurd rfl known
      | noRoom | malformed => simp only [State.nakEntry, kind]
  · subst full
    have refused : s.nakEntry e .noRoom = s.refuseBind e := by simp only [State.nakEntry, kind]
    obtain rfl := State.windowEntry_seq entry
    refine ⟨fun state announced held => ?_, fun state announced => ?_, fun state announced held => ?_,
      fun state announced => ?_⟩
    · rw [execNak_entry hears entry, refused, State.refuseBind_announcing state announced held]
      rfl
    · exact execNak_of_eq hears entry (refused.trans (State.refuseBind_announced state announced)) rfl
    · rw [execNak_entry hears entry, refused, State.refuseBind_retiring state announced held]
      rfl
    · exact execNak_of_eq hears entry (refused.trans (State.refuseBind_retiring_announced state announced)) rfl

end Sys2Proof.Machine

namespace Sys2Proof.Machine

/-! ### The releases of a HELLO-ACK (R78, R149) -/

section
variable {s : State}

/-- R76: the release of a tag that is not FREE. -/
theorem State.releaseTag_frame_of_taken {x : Tag} (taken : ∀ age, s.tagEntry x ≠ .free age) :
    ∃ rs n, s.releaseTag x = { s with records := rs, tags := { s.tags.releasing x with strandedCount := n } } := by
  cases entry : s.tagEntry x with
  | free age => exact absurd entry (taken age)
  | held b => rw [releaseTag_held entry]; exact ⟨_, _, rfl⟩
  | stranded q => rw [releaseTag_stranded entry]; exact ⟨_, _, rfl⟩

theorem State.releaseTag_tagEntry {x : Tag} (taken : ∀ age, s.tagEntry x ≠ .free age) (y : Tag) :
    (s.releaseTag x).tagEntry y = if y = x then .free 0 else s.tagEntry y := by
  obtain ⟨_, _, released⟩ := releaseTag_frame_of_taken taken
  exact tagEntry_set (by rw [released]; rfl) y

/-- R76: releases of different tags are FREE with age 0, at the tail of the free list in the order of the releases. -/
theorem State.releaseTags_effect {l : List Tag} (nodup : l.Nodup) (taken : ∀ x ∈ l, ∀ age, s.tagEntry x ≠ .free age) :
    (∀ y, (l.foldl releaseTag s).tagEntry y = if y ∈ l then .free 0 else s.tagEntry y) ∧
      ∃ rs table n, l.foldl releaseTag s = { s with records := rs, tags := { s.tags with
        table := table, freeList := s.tags.freeList ++ l, strandedCount := n } } := by
  induction l generalizing s with
  | nil => exact ⟨fun y => rfl, s.records, s.tags.table, s.tags.strandedCount, by simp⟩
  | cons x l ih =>
    obtain ⟨fresh, nodup⟩ := List.nodup_cons.mp nodup
    have first := releaseTag_tagEntry (taken x List.mem_cons_self)
    obtain ⟨entries, rs, table, n, rest⟩ := ih (s := s.releaseTag x) nodup fun y hy => by
      have other : y ≠ x := fun same => fresh (same ▸ hy)
      rw [first, if_neg other]
      exact taken y (List.mem_cons_of_mem x hy)
    refine ⟨fun y => ?_, rs, table, n, ?_⟩
    · rw [List.foldl_cons, entries, first]
      by_cases same : y = x <;> by_cases mem : y ∈ l <;> simp [same, mem]
    · obtain ⟨_, _, released⟩ := releaseTag_frame_of_taken (taken x List.mem_cons_self)
      rw [List.foldl_cons, rest, released]
      simp [TagManager.releasing]

/-- R76: a record whose tag is released loses it, and nothing else. -/
theorem State.releaseTags_record_released {l : List Tag} (agree : s.TagsAgree) {b : BindingNo} {x : Tag}
    (tag : (s.record b).tag = some x) (mem : x ∈ l) :
    (l.foldl releaseTag s).record b = { s.record b with tag := none } := by
  refine ((s.dropsTags_releaseTags l).records b).resolve_left fun same => ?_
  obtain ⟨age, free⟩ := releaseTags_free (s := s) (.inl mem)
  have held := ((agree.releaseTags l).1 x b).mpr (by rw [same, tag])
  rw [free] at held
  cases held

theorem State.releaseTags_record_kept {l : List Tag} (agree : s.TagsAgree) {b : BindingNo}
    (kept : ∀ x ∈ l, (s.record b).tag ≠ some x) : (l.foldl releaseTag s).record b = s.record b := by
  rcases (s.dropsTags_releaseTags l).records b with same | lost
  · exact same
  · cases tag : (s.record b).tag with
    | none => rw [lost, ← tag]
    | some x =>
      have keeps := releaseTags_keep agree tag fun mem => kept x mem tag
      rw [lost] at keeps
      cases keeps

/-- R78: STRANDED tags, and the tags of RETIRING records in AWAIT_SESSION. -/
theorem State.releasedAtHelloAck_iff (s : State) (x : Tag) : s.releasedAtHelloAck x = true ↔
    (∃ q, s.tagEntry x = .stranded q) ∨
      ∃ b, s.tagEntry x = .held b ∧ (s.record b).state = .retiring ∧ (s.record b).phase = .awaitSession := by
  unfold releasedAtHelloAck BindingRecord.awaitsRelease
  cases s.tagEntry x <;> simp

/-- R149 step 4: under the tag law every RETIRING record in AWAIT_SESSION holds a tag that step 3 releases. -/
theorem State.TagLaw.completesAtHelloAck_iff (law : s.TagLaw) (b : BindingNo) : s.completesAtHelloAck b = true ↔
    (s.record b).state = .retiring ∧ (s.record b).phase = .awaitSession := by
  obtain ⟨held, _, _, _, _, holds, _⟩ := law
  rw [s.completesAtHelloAck_iff]
  refine ⟨fun ⟨state, phase, _⟩ => ⟨state, phase⟩, fun ⟨state, phase⟩ => ⟨state, phase, ?_⟩⟩
  obtain ⟨x, tag⟩ := Option.isSome_iff_exists.mp (holds b (by rw [state]; rfl))
  exact ⟨x, tag, (held x b).mpr tag⟩

/-- R149 step 5: the ANNOUNCING records in AWAIT_SESSION. -/
theorem State.owedAtHelloAck_iff (s : State) (b : BindingNo) : s.owedAtHelloAck b = true ↔
    (s.record b).state = .announcing ∧ (s.record b).phase = .awaitSession := by
  simp [owedAtHelloAck]

/-- The tags that R149 step 3 releases, ascending. -/
def State.freedAtHelloAck (s : State) : List Tag := (List.finRange 31).filter s.releasedAtHelloAck

theorem State.mem_freedAtHelloAck (s : State) (x : Tag) : x ∈ s.freedAtHelloAck ↔ s.releasedAtHelloAck x = true := by
  simp [freedAtHelloAck]

theorem State.freedAtHelloAck_effect (s : State) :
    (∀ y, (s.freedAtHelloAck.foldl releaseTag s).tagEntry y =
      if s.releasedAtHelloAck y = true then .free 0 else s.tagEntry y) ∧
      ∃ rs table n, s.freedAtHelloAck.foldl releaseTag s = { s with records := rs, tags := { s.tags with
        table := table, freeList := s.tags.freeList ++ s.freedAtHelloAck, strandedCount := n } } := by
  have taken : ∀ x ∈ s.freedAtHelloAck, ∀ age, s.tagEntry x ≠ .free age := fun x mem age entry => by
    have released := (s.mem_freedAtHelloAck x).mp mem
    simp [releasedAtHelloAck, entry] at released
  obtain ⟨entries, frame⟩ := releaseTags_effect ((List.nodup_finRange 31).filter s.releasedAtHelloAck) taken
  exact ⟨fun y => (entries y).trans (if_congr (s.mem_freedAtHelloAck y) rfl rfl), frame⟩

/-- R80: no tag stays STRANDED. -/
theorem State.TagLaw.freedAtHelloAck_strandedCount (law : s.TagLaw) :
    (s.freedAtHelloAck.foldl releaseTag s).tags.strandedCount = 0 := by
  obtain ⟨agree, _, _⟩ := s.tagLaw_iff.mp law
  obtain ⟨_, _, _, count⟩ := agree.releaseTags s.freedAtHelloAck
  rw [count, countStranded_eq, List.countP_eq_zero]
  intro x _
  rw [s.freedAtHelloAck_effect.1]
  split
  · simp [TagEntry.isStranded]
  next kept =>
    cases entry : s.tagEntry x with
    | stranded q => exact absurd ((s.releasedAtHelloAck_iff x).mpr (.inl ⟨q, entry⟩)) kept
    | free age => simp [TagEntry.isStranded]
    | held b => simp [TagEntry.isStranded]

theorem State.completing_nodup (s : State) : (allBindings.filter s.completesAtHelloAck).Nodup :=
  (List.nodup_finRange 48).filter _

/-- R149 steps 3 and 4: what they leave of the part but the records. -/
theorem State.TagLaw.releasesAtHelloAck_frame (law : s.TagLaw) : ∃ rs table, s.releasesAtHelloAck = { s with
    records := rs, tags := { s.tags with
      table := table, freeList := s.tags.freeList ++ s.freedAtHelloAck, strandedCount := 0 } } := by
  obtain ⟨rs, table, n, released⟩ := s.freedAtHelloAck_effect.2
  obtain rfl : n = 0 := by
    have count := law.freedAtHelloAck_strandedCount
    rwa [released] at count
  have completed := (completeRetirements_effect s.completing_nodup (s.freedAtHelloAck.foldl releaseTag s)).2
  exact ⟨_, table, congrArg (fun u : State => { u with records := s.releasesAtHelloAck.records }) (completed.trans released)⟩

/-- R78, R119: the RETIRING records that waited for the session complete without their tags, and no other record changes. -/
theorem State.TagLaw.releasesAtHelloAck_record (law : s.TagLaw) (b : BindingNo) : s.releasesAtHelloAck.record b =
    if (s.record b).state = .retiring ∧ (s.record b).phase = .awaitSession then
      s.retiredOrFree { s.record b with tag := none } else s.record b := by
  obtain ⟨agree, _, _⟩ := s.tagLaw_iff.mp law
  obtain ⟨_, _, _, released⟩ := s.freedAtHelloAck_effect.2
  have same (r : BindingRecord) : (s.freedAtHelloAck.foldl releaseTag s).retiredOrFree r = s.retiredOrFree r :=
    retiredOrFree_congr (by rw [released]) (by rw [released]) r
  have completed := (completeRetirements_effect s.completing_nodup (s.freedAtHelloAck.foldl releaseTag s)).1 b
  simp only [List.mem_filter, mem_allBindings, true_and, same, law.completesAtHelloAck_iff] at completed
  refine completed.trans ?_
  split
  next waits =>
    obtain ⟨_, _, x, tag, held⟩ := (s.completesAtHelloAck_iff b).mp ((law.completesAtHelloAck_iff b).mpr waits)
    have mem := (s.mem_freedAtHelloAck x).mpr ((s.releasedAtHelloAck_iff x).mpr (.inr ⟨b, held, waits⟩))
    rw [releaseTags_record_released agree tag mem]
  next stays =>
    refine releaseTags_record_kept agree fun x mem tag => ?_
    have held := (agree.1 x b).mpr tag
    rcases (s.releasedAtHelloAck_iff x).mp ((s.mem_freedAtHelloAck x).mp mem) with ⟨q, stranded⟩ | ⟨c, holder, waits⟩
    · exact TagEntry.noConfusion (held.symm.trans stranded)
    · obtain rfl := TagEntry.held.inj (held.symm.trans holder)
      exact stays waits

/-! ### The notices that the HELLO-ACK makes owed (R149) -/

/-- R154: the records of the list are OWED, in its order at the tail of the owed list. -/
theorem State.oweNotices_effect {l : List BindingNo} (nodup : l.Nodup) (s : State) :
    (∀ b, (l.foldl oweNotice s).record b = if b ∈ l then { s.record b with phase := .owed } else s.record b) ∧
      ∃ rs, l.foldl oweNotice s = { s with records := rs, notice.owed := s.notice.owed ++ l } := by
  induction l generalizing s with
  | nil => exact ⟨fun b => rfl, s.records, by simp⟩
  | cons a l ih =>
    obtain ⟨fresh, nodup⟩ := List.nodup_cons.mp nodup
    obtain ⟨records, rs, rest⟩ := ih nodup (s.oweNotice a)
    refine ⟨fun b => ?_, rs, ?_⟩
    · have first : (s.oweNotice a).record b = if b = a then { s.record a with phase := .owed } else s.record b := by
        rw [oweNotice_eq, record_putRecord]
        rfl
      rw [List.foldl_cons, records, first]
      by_cases same : b = a
      · subst same; simp [fresh]
      · simp [same]
    · rw [List.foldl_cons, rest, oweNotice_eq]
      simp

/-! ### The session UP (R149, R150) -/

theorem execHelloAck_opens {n : Byte} (hears : s.hears) (number : n = s.notice.number)
    (session : s.notice.session = .opening ∨ s.notice.session = .resync) :
    exec (.helloAck n) s = .next ((s.sessionUp.grantIfReleased s).raisePart .session).arbitrate := by
  show execHelloAck n s = _
  rw [execHelloAck, returnEvent_hears hears, if_pos ⟨number, session⟩, State.openSession_eq]

theorem execHelloAck_stray {n : Byte} (hears : s.hears)
    (stray : ¬(n = s.notice.number ∧ (s.notice.session = .opening ∨ s.notice.session = .resync))) :
    exec (.helloAck n) s = .next s.countStray := by
  show execHelloAck n s = _
  rw [execHelloAck, returnEvent_hears hears, if_neg stray]

/-- The records whose notices R149 step 5 makes owed, ascending. -/
def State.owingAtHelloAck (s : State) : List BindingNo := allBindings.filter s.owedAtHelloAck

theorem State.mem_owingAtHelloAck (s : State) (b : BindingNo) : b ∈ s.owingAtHelloAck ↔
    (s.record b).state = .announcing ∧ (s.record b).phase = .awaitSession := by
  simp [owingAtHelloAck, mem_allBindings, owedAtHelloAck_iff]

/-- The part with its session opened and its credit gone (R149 steps 1 and 2). -/
def State.sessionOpened (s : State) : State := { s with notice.session := .up, notice.hello := none, trunk.credit := 0 }

/-- R149: a record that completed has no BIND to announce, so that step 5 finds the records that the event found. -/
theorem State.TagLaw.owingAtHelloAck_releases (law : s.TagLaw) :
    s.releasesAtHelloAck.owingAtHelloAck = s.owingAtHelloAck := by
  refine List.filter_congr fun b _ => Bool.eq_iff_iff.mpr ?_
  rw [owedAtHelloAck_iff, owedAtHelloAck_iff, law.releasesAtHelloAck_record]
  split
  next waits =>
    have ended := s.ended_retiredOrFree { s.record b with tag := none }
    exact ⟨fun ⟨_, phase⟩ => absurd (ended.phase.symm.trans phase) (by decide),
      fun ⟨state, _⟩ => absurd (waits.1.symm.trans state) (by decide)⟩
  next => exact Iff.rfl

theorem State.TagLaw.sessionUp_eq (law : s.TagLaw) :
    s.sessionUp = s.owingAtHelloAck.foldl oweNotice s.sessionOpened.releasesAtHelloAck := by
  have opened : s.sessionOpened.TagLaw := law
  have owing : s.sessionOpened.releasesAtHelloAck.owingAtHelloAck = s.owingAtHelloAck := opened.owingAtHelloAck_releases
  rw [← owing]
  rfl

theorem State.owingAtHelloAck_nodup (s : State) : s.owingAtHelloAck.Nodup := (List.nodup_finRange 48).filter _

/-- R149 steps 1 to 5: what they leave of the part but the records. -/
theorem State.TagLaw.sessionUp_frame (law : s.TagLaw) : ∃ rs table, s.sessionUp = { s with
    records := rs
    tags := { s.tags with
      table := table, freeList := s.tags.freeList ++ s.freedAtHelloAck, strandedCount := 0 }
    trunk := { s.trunk with credit := 0 }
    notice := { s.notice with session := .up, hello := none, owed := s.notice.owed ++ s.owingAtHelloAck } } := by
  have opened : s.sessionOpened.TagLaw := law
  obtain ⟨_, table, released⟩ := opened.releasesAtHelloAck_frame
  obtain ⟨rs, owed⟩ := (oweNotices_effect s.owingAtHelloAck_nodup s.sessionOpened.releasesAtHelloAck).2
  refine ⟨rs, table, ?_⟩
  rw [law.sessionUp_eq, owed, released]
  rfl

theorem State.TagLaw.sessionUp_tagEntry (law : s.TagLaw) (x : Tag) : s.sessionUp.tagEntry x =
    if s.releasedAtHelloAck x = true then .free 0 else s.tagEntry x := by
  obtain ⟨_, owed⟩ := (oweNotices_effect s.owingAtHelloAck_nodup s.sessionOpened.releasesAtHelloAck).2
  have kept : s.sessionUp.tagEntry x = s.sessionOpened.releasesAtHelloAck.tagEntry x := by
    rw [law.sessionUp_eq, owed]
    rfl
  rw [kept, releasesAtHelloAck_tagEntry]
  exact s.sessionOpened.freedAtHelloAck_effect.1 x

/-- R78, R149: what the session's opening makes of each record. -/
theorem State.TagLaw.sessionUp_record (law : s.TagLaw) (b : BindingNo) : s.sessionUp.record b =
    if (s.record b).state = .retiring ∧ (s.record b).phase = .awaitSession then
      s.retiredOrFree { s.record b with tag := none }
    else if (s.record b).state = .announcing ∧ (s.record b).phase = .awaitSession then { s.record b with phase := .owed }
    else s.record b := by
  have opened : s.sessionOpened.TagLaw := law
  have released : s.sessionOpened.releasesAtHelloAck.record b =
      if (s.record b).state = .retiring ∧ (s.record b).phase = .awaitSession then
        s.retiredOrFree { s.record b with tag := none } else s.record b := opened.releasesAtHelloAck_record b
  rw [law.sessionUp_eq, (oweNotices_effect s.owingAtHelloAck_nodup _).1, released]
  simp only [mem_owingAtHelloAck]
  split
  next announcing =>
    have other : ¬((s.record b).state = .retiring ∧ (s.record b).phase = .awaitSession) := fun ⟨state, _⟩ =>
      absurd (announcing.1.symm.trans state) (by decide)
    rw [if_neg other, if_neg other]
  next => rfl

end

/-- Settles O32: the state before the grants is `State.sessionUp`, its tags and records read under the tag law. -/
theorem helloAckBringsSessionUp : Obligations.HelloAckBringsSessionUp := by
  intro s n hears
  refine ⟨fun stray => execHelloAck_stray hears stray, ?_⟩
  intro number session law waits released
  have releasedIff (x : Tag) : s.releasedAtHelloAck x = true ↔ released x := s.releasedAtHelloAck_iff x
  obtain ⟨rs, table, frame⟩ := law.sessionUp_frame
  refine ⟨s.sessionUp, s.freedAtHelloAck, s.owingAtHelloAck, execHelloAck_opens hears number session,
    fun x => (s.mem_freedAtHelloAck x).trans (releasedIff x), (List.pairwise_lt_finRange 31).filter _,
    s.mem_owingAtHelloAck, (List.pairwise_lt_finRange 48).filter _, by rw [frame], by rw [frame], by rw [frame],
    fun x free => ?_, fun x kept => ?_, fun b retiring => ?_, fun b announcing => ?_, fun b retiring announcing => ?_,
    by rw [frame]⟩
  · rw [law.sessionUp_tagEntry, if_pos ((releasedIff x).mpr free)]
  · rw [law.sessionUp_tagEntry, if_neg (mt (releasedIff x).mp kept)]
  · rw [law.sessionUp_record, if_pos retiring]
  · have other : ¬waits b .retiring := fun ⟨state, _⟩ => absurd (announcing.1.symm.trans state) (by decide)
    rw [law.sessionUp_record, if_neg other, if_pos announcing]
  · rw [law.sessionUp_record, if_neg retiring, if_neg announcing]

end Sys2Proof.Machine

namespace Sys2Proof.Machine

/-! ### The windows (R172, R173, R179, Table 11-D) -/

section
variable {s : State} {address : BitVec 7} {length i k : Nat}

/-- R179: the captured window, and COLLISION cleared by a read of the STATUS window. -/
theorem execStatusWindowRead_eq (awake : s.awake) : exec (.statusWindowRead address length) s = .next { s with
    host := { s.host with
      miso := some (captured (s.windowBytes address) length)
      collision := if address = 0x01#7 then false else s.host.collision } } := by
  show execStatusWindowRead address length s = _
  rw [execStatusWindowRead, takeEvent_awake awake]
  by_cases status : address = 0x01#7
  · simp only [windowStatus, status, if_true]
  · simp only [windowStatus, status, if_false]

theorem length_captured (contents : List Byte) : (captured contents length).length = length := by simp [captured]

theorem getD_captured {contents : List Byte} (h : i < length) :
    (captured contents length).getD i 0#8 = contents.getD i 0#8 := by simp [captured, h]

theorem State.windowBytes_status : s.windowBytes 0x01#7 = [s.statusByte] := rfl

theorem State.windowBytes_summary : s.windowBytes 0x02#7 = s.summaryBytes := rfl

theorem State.windowBytes_command : s.windowBytes 0x03#7 = s.host.command.toList := rfl

theorem State.windowBytes_response : s.windowBytes 0x05#7 = s.host.response.toList := rfl

theorem State.windowBytes_other (status : address ≠ 0x01#7) (summary : address ≠ 0x02#7) (command : address ≠ 0x03#7)
    (response : address ≠ 0x05#7) : s.windowBytes address = [] := by
  rw [windowBytes, windowStatus, windowSummary, windowCommand, windowResponse, if_neg status, if_neg summary,
    if_neg command, if_neg response]

/-- R179: a byte past the end of every window that has contents. -/
theorem State.windowBytes_getD_past (past : address = 0x01#7 ∧ 1 ≤ i ∨ address = 0x02#7 ∧ 7 ≤ i ∨
    address = 0x03#7 ∧ 16 ≤ i ∨ address = 0x05#7 ∧ 32 ≤ i) : (s.windowBytes address).getD i 0#8 = 0#8 := by
  refine List.getD_eq_default _ _ ?_
  rcases past with ⟨rfl, past⟩ | ⟨rfl, past⟩ | ⟨rfl, past⟩ | ⟨rfl, past⟩
  · exact past
  · exact past
  · rwa [windowBytes_command, Vector.length_toList]
  · rwa [windowBytes_response, Vector.length_toList]

theorem getD_toList {α : Type} {n : Nat} (v : Vector α n) (d : α) (k : Fin n) : v.toList.getD k.val d = v[k] := by
  rw [List.getD_eq_getElem _ _ (by simp), Vector.getElem_toList]
  rfl

/-! #### The STATUS window's byte -/

theorem Mailbox.code_lt (x : Mailbox) : x.code < 3 := by cases x <;> decide

theorem Session.code_lt (x : Session) : x.code < 5 := by cases x <;> decide

/-- R172: what the ATTN mirror shows outside RESET. -/
theorem State.attnLow_iff (awake : s.awake) :
    s.attnLow = true ↔ s.attention.part ≠ 0#6 ∨ ∃ b, (s.record b).reasons ≠ 0#5 := by
  have some_reason : s.attentionSet.isEmpty = false ↔ ∃ b, (s.record b).reasons ≠ 0#5 :=
    List.isEmpty_eq_false_iff_exists_mem.trans (exists_congr fun _ => mem_attentionSet)
  rw [attnLow, show s.resetAsserted = false from awake, ← some_reason]
  simp

theorem getLsbD_eq_of_digit {v : Byte} {x : Bool} (h : v.toNat / 2 ^ k % 2 = flagNat x) : v.getLsbD k = x := by
  rw [BitVec.getLsbD, Nat.testBit_eq_decide_div_mod_eq, h]
  cases x <;> rfl

theorem State.toNat_statusByte (s : State) : s.statusByte.toNat =
    s.host.mailbox.code + flagNat s.host.collision * 4 + flagNat s.attnLow * 8 + s.notice.session.code * 16 := by
  have mailbox := s.host.mailbox.code_lt
  have collision := flagNat_lt s.host.collision
  have attn := flagNat_lt s.attnLow
  have session := s.notice.session.code_lt
  exact toNat_byteOf (by omega)

/-- Table 11-D: the fields of the STATUS window's byte do not overlap. -/
theorem State.statusByte_layout (s : State) : s.statusByte.toNat % 4 = s.host.mailbox.code ∧
    s.statusByte.getLsbD 2 = s.host.collision ∧ s.statusByte.getLsbD 3 = s.attnLow ∧
    s.statusByte.toNat / 16 = s.notice.session.code := by
  have byte := s.toNat_statusByte
  have mailbox := s.host.mailbox.code_lt
  have collision := flagNat_lt s.host.collision
  have attn := flagNat_lt s.attnLow
  refine ⟨?_, getLsbD_eq_of_digit ?_, getLsbD_eq_of_digit ?_, ?_⟩ <;> omega

/-! #### The ATTENTION SUMMARY window's bytes -/

theorem testBit_sum_two_pow {l : List Nat} (sorted : l.SortedLT) : (l.map (2 ^ ·)).sum.testBit k = true ↔ k ∈ l := by
  rw [← Nat.mem_bitIndices, Nat.bitIndices_sum_map_two_pow sorted]

theorem State.attentionSet_sorted (s : State) : s.attentionSet.Pairwise (· < ·) :=
  (List.sortedLT_finRange 48).pairwise.filter _

/-- The bits of the attention set that the flags of byte `i` show, ascending. -/
def State.summaryBits (s : State) (i : Nat) : List Nat := (s.attentionSet.filter fun b => b.val / 8 == i).map (·.val % 8)

theorem State.summaryByte_eq : s.summaryByte i = byteOf ((s.summaryBits i).map (2 ^ ·)).sum := by
  rw [summaryByte, summaryBits, List.map_map]
  rfl

theorem State.mem_summaryBits (h : k < 8) :
    k ∈ s.summaryBits i ↔ ∃ b : BindingNo, b.val = 8 * i + k ∧ (s.record b).reasons ≠ 0#5 := by
  simp only [summaryBits, List.mem_map, List.mem_filter, mem_attentionSet, beq_iff_eq]
  refine exists_congr fun b => ⟨fun ⟨⟨reason, byte⟩, bit⟩ => ⟨by omega, reason⟩, fun ⟨number, reason⟩ =>
    ⟨⟨reason, by omega⟩, by omega⟩⟩

/-- Within one byte the binding numbers ascend with their bits, so that no two flags fall on one bit. -/
theorem State.summaryBits_sorted (s : State) (i : Nat) : (s.summaryBits i).SortedLT := by
  refine List.sortedLT_iff_pairwise.mpr (List.pairwise_map.mpr ?_)
  refine (s.attentionSet_sorted.filter _).imp_of_mem fun {a b} ha hb (lt : a.val < b.val) => ?_
  have byteA : a.val / 8 = i := beq_iff_eq.mp (List.mem_filter.mp ha).2
  have byteB : b.val / 8 = i := beq_iff_eq.mp (List.mem_filter.mp hb).2
  omega

/-- R173, Table 11-D: bit k of byte i is the flag of binding number 8i + k. -/
theorem State.summaryByte_flag (h : k < 8) : (s.summaryByte i).getLsbD k = true ↔
    ∃ b : BindingNo, b.val = 8 * i + k ∧ (s.record b).reasons ≠ 0#5 := by
  rw [summaryByte_eq, byteOf, BitVec.getLsbD_ofNat, decide_eq_true h, Bool.true_and,
    testBit_sum_two_pow (s.summaryBits_sorted i), mem_summaryBits h]

theorem State.summaryBytes_getD_flags (h : i < 6) : s.summaryBytes.getD i 0#8 = s.summaryByte i := by
  rw [summaryBytes, List.getD_append _ _ _ _ (by simpa using h)]
  simp [h]

theorem State.summaryBytes_getD_part : s.summaryBytes.getD 6 0#8 = s.attention.part.setWidth 8 :=
  byteOf_toNat s.attention.part

end

/-- Settles O38: the window's contents are captured byte by byte, and each window's bytes have the layout of Table 11-D. -/
theorem windowReadCaptures : Obligations.WindowReadCaptures := by
  intro s address length awake
  refine ⟨_, execStatusWindowRead_eq awake, length_captured _, fun i inside => ?_⟩
  simp only [getD_captured inside]
  refine ⟨?_, ?_, ?_, ?_, ?_, State.windowBytes_getD_past, fun status summary command response => ?_⟩
  · rintro rfl rfl
    obtain ⟨mailbox, collision, attn, session⟩ := s.statusByte_layout
    refine ⟨mailbox.trans ?_, collision, ?_, session.trans ?_⟩
    · cases s.host.mailbox <;> rfl
    · rw [← State.attnLow_iff awake, ← attn]
      rfl
    · cases s.notice.session <;> rfl
  · rintro rfl flags k bit
    rw [State.windowBytes_summary, State.summaryBytes_getD_flags flags]
    exact State.summaryByte_flag bit
  · rintro rfl rfl
    exact State.summaryBytes_getD_part
  · rintro rfl k rfl
    exact getD_toList s.host.command 0#8 k
  · rintro rfl k rfl
    exact getD_toList s.host.response 0#8 k
  · rw [State.windowBytes_other status summary command response]
    rfl

end Sys2Proof.Machine

namespace Sys2Proof.Machine

/-! ### RESET asserted and released (R194) -/

theorem State.attnLow_asserted {s : State} (h : s.resetAsserted = true) : s.attnLow = false := by
  rw [attnLow, h]
  rfl

/-- R194: every command but the two of the RESET pin is an event that the asserted pin keeps from the part. -/
theorem exec_asserted {s : State} {c : Instr} (h : s.resetAsserted = true) (assertion : c ≠ .resetAssertion)
    (release : c ≠ .powerOnReset) : exec c s = .next s := by
  cases c with
  | resetAssertion => exact absurd rfl assertion
  | powerOnReset => exact absurd rfl release
  | _ => exact congrArg Host.Outcome.next (if_pos h)

/-- Settles O2: the two commands of the pin are their definitions, and every other one is held off. -/
theorem resetPinIsObeyed : Obligations.ResetPinIsObeyed := fun _ =>
  ⟨rfl, rfl, fun asserted => ⟨State.attnLow_asserted asserted, fun _ => exec_asserted asserted⟩⟩

/-! ### RESTART (R193) -/

section
variable {s : State}

/-- R193: the blocks' RESTART values are their power-on values but for what each block keeps (R26, R46, R85, R128, R144,
R166, R177). -/
theorem State.restarted_eq (awake : s.awake) : s.restarted = { State.reset with
    classes := s.classes, line := s.line, pending := s.pending, feeders := s.feeders.map FeederLink.restarted
    freeCells := 1536 - queueCells (restartedQueue s.trunk.queue)
    tags := s.tags.restarted, trunk := s.trunk.restarted, notice := s.notice.restarted
    attention := s.attention.restarted, host := { s.host with collision := false } } := by
  rw [restarted, show s.resetAsserted = false from awake]
  rfl

/-- R177: after RESTART no record has a reason. -/
theorem State.attentionSet_restarted (s : State) : s.restarted.attentionSet = [] := State.attentionSet_reset

/-- R177: RESTART clears every reason, and so releases ATTN. -/
theorem State.attnLow_restarted (s : State) : s.restarted.attnLow = false := by
  rw [attnLow, attentionSet_restarted]
  exact Bool.and_false _

/-- Settles O4: RESTART posts OK to the state in which every block has its RESTART values. -/
theorem restartTakesEffect : Obligations.RestartTakesEffect := by
  intro s inHand kept
  have run : exec .restart s = .next (s.restarted.post .ok []) := by
    show execRestart s = _
    rw [execRestart, commandEvent_inHand inHand]
  obtain ⟨awake, _, code⟩ := inHand
  refine ⟨_, run, ?_, ?_, s.attentionSet_restarted, s.attnLow_restarted⟩
  · rw [State.restarted_eq awake]
    rfl
  · show (responseBlock .ok s.host.command[0] []).toList = _
    rw [toList_responseBlock .ok _ (Nat.zero_le _), code]
    rfl

end

/-! ### Transactions, writes and GO (R178, R180, R181) -/

section
variable {s : State} {address : Byte} {data : List Byte}

/-- R179: bit 7 of the address byte is 1 for a read. -/
theorem decodeTransaction_read (read : address.getLsbD 7 = true) :
    decodeTransaction address data = .statusWindowRead (address.setWidth 7) data.length := by
  rw [decodeTransaction, BitVec.msb_eq_getLsbD_last, if_pos read, BitVec.setWidth_eq_extractLsb' (by omega)]

/-- R180: a write by the window it addresses. -/
theorem decodeTransaction_write (write : address.getLsbD 7 = false) : decodeTransaction address data =
    if address.setWidth 7 = 0x03#7 then .commandWrite data
    else if address.setWidth 7 = 0x04#7 then .go data else .ignoredWrite (address.setWidth 7) data := by
  rw [decodeTransaction, BitVec.msb_eq_getLsbD_last, if_neg (ne_true_of_eq_false write),
    BitVec.setWidth_eq_extractLsb' (by omega)]
  rfl

/-- R180: the bytes of a write lie in the block from byte 0 on, those past byte 15 are dropped. -/
theorem getElem_overwrite (block : Vector Byte 16) (data : List Byte) (i : Fin 16) :
    (overwrite block data)[i] = if h : i.val < data.length then data[i.val] else block[i] := by
  simp only [overwrite, Fin.getElem_fin, Vector.getElem_ofFn]
  split
  · exact List.getD_eq_getElem _ _ ‹_›
  · exact List.getD_eq_default _ _ (Nat.le_of_not_lt ‹_›)

theorem execCommandWrite_eq (awake : s.awake) : exec (.commandWrite data) s = .next (if s.host.mailbox = .busy then
    { s with host.collision := true } else { s with host.command := overwrite s.host.command data }) := by
  show execCommandWrite data s = _
  rw [execCommandWrite, takeEvent_awake awake]

theorem execGo_eq (awake : s.awake) : exec (.go data) s = .next (if s.host.mailbox = .busy then
    { s with host.collision := true } else { s with host.mailbox := .busy }) := by
  show execGo data s = _
  rw [execGo, takeEvent_awake awake]

end

/-- Settles O39: the whole bytes of a transaction decode by bit 7 and window, and the mailbox decides what a write does. -/
theorem mailboxHandshake : Obligations.MailboxHandshake := by
  refine ⟨fun tail short => ⟨?_, fun address data => ?_⟩, fun s data awake => ⟨fun busy => ?_, fun idle => ?_⟩⟩
  · rw [decodeSpi, wholeBytes_short short]
  · intro bits window
    have decoded : decodeSpi bits = some (decodeTransaction address data) := decodeSpi_bits address data short
    refine ⟨fun read => ?_, fun write => ?_⟩
    · rw [decoded, decodeTransaction_read read]
    · rw [decoded, decodeTransaction_write write]
      refine ⟨fun command => by rw [if_pos command], fun go => ?_, fun command go => by rw [if_neg command, if_neg go]⟩
      have command : window ≠ 0x03#7 := fun command => absurd (command.symm.trans go) (by decide)
      rw [if_neg command, if_pos go]
  · rw [execCommandWrite_eq awake, execGo_eq awake, if_pos busy, if_pos busy]
    exact ⟨rfl, rfl⟩
  · rw [execCommandWrite_eq awake, execGo_eq awake, if_neg idle, if_neg idle]
    exact ⟨rfl, _, rfl, getElem_overwrite s.host.command data⟩

end Sys2Proof.Machine

namespace Sys2Proof.Machine

/-! ### STATUS (R184, R199) -/

section
variable {s : State} {clear : Bool}

/-- R184, R199: the state that an accepted STATUS leaves. -/
def State.statusTaken (s : State) (clear : Bool) : State :=
  { (s.post .ok s.statusBytes).writeTiming with counters := if clear then TrunkCounters.zero else s.counters }

/-- R184: the operand of STATUS read. -/
theorem execStatus_eq (h : s.inHand 0x01#8) (h1 : s.op 1 = flagOp clear) :
    exec .status s = .next (s.statusTaken clear) := by
  show execStatus s = _
  rw [execStatus, commandEvent_inHand h, State.operand, flagOperand_of_toNat h1]
  cases clear <;> rfl

/-- R182: every byte of the response. -/
theorem State.statusTaken_response (h : s.inHand 0x01#8) (i : Fin 32) :
    (s.statusTaken clear).host.response[i] = (0x00#8 :: 0x01#8 :: s.statusBytes).getD i 0#8 := by
  obtain ⟨_, _, code⟩ := h
  show (responseBlock .ok s.host.command[0] s.statusBytes)[i] = _
  rw [code, responseBlock, Fin.getElem_fin, Vector.getElem_ofFn]
  rfl

/-- R199: every byte of the command block. -/
theorem State.statusTaken_command (s : State) (clear : Bool) (i : Fin 16) : (s.statusTaken clear).host.command[i] =
    if i.val < 8 then s.host.command[i] else s.timingAndSweepBytes.getD (i.val - 8) 0#8 := by
  show (Vector.ofFn _)[i] = _
  rw [Fin.getElem_fin, Vector.getElem_ofFn]
  rfl

theorem helloCode_lt {x : Option Hello} (h : ∀ y, x = some y → y.count ≤ 4) : (x.map (·.count)).getD 7 < 8 := by
  cases x with
  | none => decide
  | some y => exact (h y rfl).trans_lt (by decide)

theorem State.sendingData_iff : s.sendingData = true ↔ ∃ bytes, s.trunk.output = .busy .data bytes := by
  rw [sendingData]
  split
  next bytes output => exact ⟨fun _ => ⟨bytes, output⟩, fun _ => rfl⟩
  next other => exact ⟨fun h => absurd h Bool.false_ne_true, fun ⟨bytes, output⟩ => absurd output (other bytes)⟩

end

/-- Settles O42: each byte packs values that are below the weight of the next one. -/
theorem statusReports : Obligations.StatusReports := by
  intro s clear inHand h1 window hello owed queue credit cells free stranded waiting ⟨c1, c2, c3, c4⟩ timeout holdOff
    threshold cursor matched acted
  have session := s.notice.session.code_lt
  have line := flagNat_lt (s.line == .up)
  have data := flagNat_lt s.sendingData
  have helloLt := helloCode_lt hello
  have ready : (s.tags.freeList.filter s.tagReady).length ≤ s.tags.freeList.length := List.length_filter_le ..
  have part := s.attention.part.isLt
  have set : s.attentionSet.length ≤ 48 := (List.length_filter_le ..).trans (List.length_finRange ..).le
  have running := flagNat_lt s.sweep.running
  have aborted := flagNat_lt s.sweep.aborted
  have d2 : (byteOf (s.notice.session.code + s.notice.window.length * 8 + flagNat (s.line == .up) * 64
    + flagNat s.sendingData * 128)).toNat = s.notice.session.code + s.notice.window.length * 8
    + flagNat (s.line == .up) * 64 + flagNat s.sendingData * 128 := toNat_byteOf (by omega)
  have d4 := unpack_byteOf (hi := s.tags.freeList.length) helloLt (by omega)
  obtain ⟨d8, d9⟩ := toNat_bytes16 (n := s.trunk.credit) (by omega)
  have d10 : (byteOf (s.readyTagCount * 8 + s.freeCells / 256)).toNat = s.readyTagCount * 8 + s.freeCells / 256 :=
    toNat_byteOf (by rw [State.readyTagCount]; omega)
  have d11 : (byteOf s.freeCells).toNat = s.freeCells % 256 := BitVec.toNat_ofNat ..
  obtain ⟨t9, t10⟩ := toNat_bytes16 (n := s.tags.holdOff) (by omega)
  refine ⟨_, execStatus_eq inHand h1, ?_⟩
  simp only [State.statusTaken_response inHand, State.statusTaken_command]
  refine ⟨rfl, rfl, (congrArg (· % 8) d2).trans ?_, (congrArg (· / 8 % 8) d2).trans ?_,
    (congrArg (· / 64 % 2) d2).trans ?_, ?_, rfl, d4.1.trans ?_, d4.2, rfl, toNat_byteOf (by omega), toNat_byteOf (by omega),
    (congrArg₂ (· * 256 + ·) d8 d9).trans ?_, (congrArg (· / 8) d10).trans ?_,
    (congrArg₂ (· % 8 * 256 + ·) d10 d11).trans ?_, toNat_byteOf (by omega), toNat_byteOf (by omega),
    toNat_byteOf (by omega), (toNat_byteOf (by omega)).trans s.attentionSet_length,
    counter_of_bytes32 c1, counter_of_bytes32 c2, counter_of_bytes32 c3, counter_of_bytes32 c4, fun i low => if_pos low,
    toNat_byteOf (by omega), (congrArg₂ (· * 256 + ·) t9 t10).trans ?_, toNat_byteOf (by omega),
    (toNat_byteOf (by omega)).trans ?_, toNat_byteOf (by omega), toNat_byteOf (by omega), toNat_byteOf (by omega), rfl, ?_⟩
  · exact Eq.trans (b := s.notice.session.code) (by omega) (by cases s.notice.session <;> rfl)
  · omega
  · exact Eq.trans (b := flagNat (s.line == .up)) (by omega) (by cases s.line <;> rfl)
  · rw [← State.sendingData_iff]
    refine (Iff.of_eq (congrArg (· / 128 = 1) d2)).trans ?_
    exact Iff.trans (b := flagNat s.sendingData = 1) (by omega) (by cases s.sendingData <;> decide)
  · cases s.notice.hello <;> rfl
  · omega
  · exact Eq.trans (b := s.readyTagCount) (by omega) rfl
  · omega
  · omega
  · exact congrArg (flagNat s.sweep.running + ·) (Nat.mul_comm ..)
  · rfl

end Sys2Proof.Machine

namespace Sys2Proof.Machine

/-! ### Events that leave the host port alone

The operations that the receiver, the timers, the trunk and the sweeps are made of write no field of the host port. -/

namespace State

section
variable {s : State} {b : BindingNo}

theorem CloseFrame.host {t : State} (h : s.CloseFrame t) : t.host = s.host := by
  obtain ⟨_, _, _, _, _, _, _, rfl⟩ := h
  rfl

/-- Steps that each leave the host port alone do so one after the other. -/
theorem foldl_host {α : Type} {f : State → α → State} (keeps : ∀ u a, (f u a).host = u.host) (l : List α) (s : State) :
    (l.foldl f s).host = s.host := by
  induction l generalizing s with
  | nil => rfl
  | cons a l ih => exact (ih _).trans (keeps s a)

@[simp] theorem raisePart_host (r : PartReason) : (s.raisePart r).host = s.host := by rw [raisePart_eq]

@[simp] theorem raiseRecord_host (r : RecordReason) : (s.raiseRecord b r).host = s.host := by
  rw [raiseRecord_eq, putRecord_host]

@[simp] theorem oweNotice_host : (s.oweNotice b).host = s.host := rfl

@[simp] theorem takeClose_host (c : FrameClose) : (s.takeClose c).host = s.host := (s.closeFrame_takeClose c).host

@[simp] theorem grantIfReleased_host (before : State) : (s.grantIfReleased before).host = s.host :=
  (s.closeFrame_grantIfReleased before).host

@[simp] theorem releaseTag_host (x : Tag) : (s.releaseTag x).host = s.host := by
  obtain ⟨_, _, released⟩ := s.releaseTag_frame x
  rw [released]

@[simp] theorem completeRetirement_host : (s.completeRetirement b).host = s.host := by
  obtain ⟨_, completed⟩ := s.completeRetirement_frame b
  rw [completed]

@[simp] theorem moveDrained_host : (s.moveDrained b).host = s.host := by
  obtain ⟨_, _, _, moved⟩ := s.moveDrained_frame b
  rw [moved]

@[simp] theorem enterResync_host : s.enterResync.host = s.host := by
  obtain ⟨_, entered⟩ := s.enterResync_frame
  rw [entered]

@[simp] theorem enterLive_host : (s.enterLive b).host = s.host := (s.closeFrame_enterLive b).host

/-! #### Feeder links -/

@[simp] theorem takeCell_host (l : LinkNo) (f : OpenFrame) (payload : List Byte) :
    (s.takeCell l f payload).host = s.host := by
  simp only [takeCell]
  split
  · rfl
  · split
    · unfold reserveCell
      split
      · rfl
      · exact raisePart_host _
    · rfl

@[simp] theorem loseLock_host (l : LinkNo) : (s.loseLock l).host = s.host := raisePart_host _

/-! #### Timers -/

@[simp] theorem lapse_host : (s.lapse b).host = s.host := by
  simp only [lapse, releaseTagOf, goFree, updateRecord_host]
  split
  · exact releaseTag_host _
  · rfl

@[simp] theorem enterSilent_host : (s.enterSilent b).host = s.host := raiseRecord_host _

@[simp] theorem expireLease_host : (s.expireLease b).host = s.host := by
  simp only [expireLease]
  split
  case h_1 =>
    split
    · exact lapse_host
    · rfl
  case h_2 =>
    split
    · rfl
    · exact lapse_host
  case h_3 | h_4 =>
    split
    · exact enterSilent_host
    · exact s.beginRetirement_host b .lease
  all_goals rfl

@[simp] theorem exhaust_host (e : WindowEntry) : (s.exhaust e).host = s.host := by
  unfold exhaust
  split
  · exact enterResync_host
  · simp only [exhaustUnbind]
    split
    · simp [strandTag, removeEntry]
    · simp [strandTag, removeEntry]

@[simp] theorem timeoutEntry_host (e : WindowEntry) : (s.timeoutEntry e).host = s.host := by
  unfold timeoutEntry
  split
  · simp only [makeDue]
    split <;> rfl
  · exact exhaust_host e

/-! #### The trunk and its replies -/

@[simp] theorem completeSend_host (d : Descriptor) : (s.completeSend d).host = s.host := by
  simp only [completeSend, completeInFlight]
  split
  · exact moveDrained_host
  · rfl

@[simp] theorem startTimer_host (i : TxItem) : (s.startTimer i).host = s.host := by
  unfold startTimer
  split
  · rfl
  · split <;> rfl
  · rfl

@[simp] theorem cutOff_host : s.cutOff.host = s.host := by
  simp only [cutOff]
  split
  · split
    next d _ =>
      simp only [dropDescriptor, dropFromRecord]
      split <;> rfl
    · rfl
  · rfl

@[simp] theorem sessionLineDown_host : s.sessionLineDown.host = s.host := by
  unfold sessionLineDown
  split
  · exact enterResync_host
  all_goals rfl

@[simp] theorem openSession_host : s.openSession.host = s.host := by
  simp only [openSession, raisePart_host, grantIfReleased_host]
  rw [foldl_host fun _ _ => oweNotice_host, foldl_host fun _ _ => completeRetirement_host,
    foldl_host fun _ => releaseTag_host]

@[simp] theorem acknowledge_host (e : WindowEntry) : (s.acknowledge e).host = s.host := by
  simp only [acknowledge]
  split
  · simp [removeEntry]
  · split
    · exact enterLive_host
    all_goals rfl

@[simp] theorem refuseBind_host (e : WindowEntry) : (s.refuseBind e).host = s.host := by
  simp only [refuseBind]
  split
  case h_1 | h_3 => simp [removeEntry]
  all_goals rfl

@[simp] theorem nakEntry_host (e : WindowEntry) (r : NakReason) : (s.nakEntry e r).host = s.host := by
  unfold nakEntry
  split
  · exact refuseBind_host e
  · exact acknowledge_host e
  all_goals exact timeoutEntry_host e

@[simp] theorem lateReply_host (confirms : Bool) (q : Byte) : (s.lateReply confirms q).host = s.host := by
  unfold lateReply
  split
  · exact releaseTag_host _
  · rfl

/-! #### Sweeps -/

@[simp] theorem sweepAct_host (a : SweepAction) : (s.sweepAct b a).host = s.host := by
  unfold sweepAct
  split
  · exact s.beginRetirement_host b .sweep
  · rfl
  · split <;> rfl

@[simp] theorem sweepTest_host (j : SweepJob) : (s.sweepTest j b).host = s.host := by
  simp only [sweepTest]
  split
  · exact sweepAct_host _
  · rfl

@[simp] theorem sweepAdvance_host : s.sweepAdvance.host = s.host := by
  simp only [sweepAdvance]
  split
  · exact raisePart_host _
  · rfl

end

end State

section
variable {s t : State} {l : LinkNo}

theorem takeEvent_host {f : State → State} (h : takeEvent s f = .next t) (hf : (f s).host = s.host) : t.host = s.host :=
  takeEvent_keeps (Q := fun u => u.host = s.host) h rfl hf

theorem returnEvent_host {f : State → State} (h : returnEvent s f = .next t) (hf : (f s).host = s.host) :
    t.host = s.host := returnEvent_keeps (Q := fun u => u.host = s.host) h rfl hf

/-! #### The feeder family -/

theorem execOpenMarker_host {format : Fin 16} {stream : StreamNo} {n : Byte}
    (h : execOpenMarker l format stream n s = .next t) : t.host = s.host := by
  refine takeEvent_host h ?_
  split
  · split
    · rfl
    · exact (State.arbitrate_host _).trans (State.takeClose_host _)
  · rfl

theorem execCellMarker_host {payload : List Byte} (h : execCellMarker l payload s = .next t) : t.host = s.host := by
  refine takeEvent_host h ?_
  split
  · split
    · rfl
    · exact State.takeCell_host ..
  · rfl

theorem execFrameClose_host {declared : Byte} {crc : BitVec 16} (h : execFrameClose l declared crc s = .next t) :
    t.host = s.host := by
  refine takeEvent_host h ?_
  split
  · split
    · rfl
    · exact (State.arbitrate_host _).trans (State.takeClose_host _)
  · rfl

theorem execLineLock_host (h : execLineLock l s = .next t) : t.host = s.host := by
  refine takeEvent_host h ?_
  split
  · exact State.raisePart_host _
  · rfl

theorem execLockLoss_host (h : execLockLoss l s = .next t) : t.host = s.host := by
  refine takeEvent_host h ?_
  split
  · split
    · exact State.loseLock_host l
    · exact ((State.arbitrate_host _).trans (State.loseLock_host l)).trans (State.takeClose_host _)
  · rfl

/-! #### Timers -/

theorem execLeaseExpiry_host {b : BindingNo} (h : execLeaseExpiry b s = .next t) : t.host = s.host := by
  refine takeEvent_host h ?_
  split
  · exact (State.arbitrate_grantIfReleased_host ..).trans State.expireLease_host
  · rfl

theorem execHoldOffExpiry_host (h : execHoldOffExpiry s = .next t) : t.host = s.host :=
  takeEvent_host h ((State.arbitrate_host _).trans (State.grantEvent_host _))

theorem execHelloTimerExpiry_host (h : execHelloTimerExpiry s = .next t) : t.host = s.host := by
  refine takeEvent_host h ?_
  split
  · split
    · refine (State.arbitrate_host _).trans ?_
      split
      · rfl
      · exact State.raisePart_host _
    · rfl
  · rfl

theorem execNoticeTimerExpiry_host {q : Byte} (h : execNoticeTimerExpiry q s = .next t) : t.host = s.host := by
  refine takeEvent_host h ?_
  split
  · split
    · exact (State.arbitrate_host _).trans (State.timeoutEntry_host _)
    · rfl
  · rfl

theorem execTimebaseTick_host (h : execTimebaseTick s = .next t) : t.host = s.host := by
  refine takeEvent_host h ?_
  rw [s.tick_eq]
  rfl

/-! #### The trunk and its replies -/

theorem execSendCompletion_host (h : execSendCompletion s = .next t) : t.host = s.host := by
  refine takeEvent_host h ?_
  split
  next d _ =>
    have completed : ((s.completeSend d).grantIfReleased s).host = s.host :=
      (State.grantIfReleased_host s).trans (State.completeSend_host d)
    exact (State.arbitrate_host _).trans completed
  · rfl

theorem execNoticeEnd_host (h : execNoticeEnd s = .next t) : t.host = s.host := by
  refine takeEvent_host h ?_
  split
  · exact (State.arbitrate_host _).trans (s.startTimer_host _)
  · exact (State.arbitrate_host _).trans (s.startTimer_host _)
  · rfl
  · rfl

theorem execLineUp_host (h : execLineUp s = .next t) : t.host = s.host := by
  refine takeEvent_host h ?_
  split
  · exact State.arbitrate_host _
  · rfl

theorem execLineDown_host (h : execLineDown s = .next t) : t.host = s.host := by
  refine takeEvent_host h ?_
  have down : ({ s.cutOff with line := .down }.sessionLineDown).host = s.host :=
    State.sessionLineDown_host.trans s.cutOff_host
  split
  · simp only
    split
    · exact State.moveDrained_host.trans down
    · exact down
  · rfl

theorem execCredit_host {increment : BitVec 16} (h : execCredit increment s = .next t) : t.host = s.host := by
  refine returnEvent_host h ?_
  split
  · exact State.arbitrate_host _
  · rfl

theorem execHelloAck_host {number : Byte} (h : execHelloAck number s = .next t) : t.host = s.host := by
  refine returnEvent_host h ?_
  split
  · exact (State.arbitrate_host _).trans State.openSession_host
  · rfl

theorem execAck_host {q : Byte} (h : execAck q s = .next t) : t.host = s.host := by
  refine returnEvent_host h ?_
  split
  · exact (State.arbitrate_grantIfReleased_host ..).trans (State.acknowledge_host _)
  · exact (State.arbitrate_grantIfReleased_host ..).trans (State.lateReply_host ..)

theorem execNak_host {q : Byte} {r : NakReason} (h : execNak q r s = .next t) : t.host = s.host := by
  refine returnEvent_host h ?_
  split
  · exact (State.arbitrate_grantIfReleased_host ..).trans (State.nakEntry_host ..)
  · exact (State.arbitrate_grantIfReleased_host ..).trans (State.lateReply_host ..)

theorem execResyncRequest_host (h : execResyncRequest s = .next t) : t.host = s.host := by
  refine returnEvent_host h ?_
  split
  · exact (State.arbitrate_host _).trans State.enterResync_host
  · rfl

/-! #### Sweeps -/

theorem execSweepVisit_host (h : execSweepVisit s = .next t) : t.host = s.host := by
  refine takeEvent_host h ?_
  split
  · split
    · split
      · exact ((State.arbitrate_grantIfReleased_host ..).trans State.sweepAdvance_host).trans (State.sweepTest_host _)
      · rfl
    · rfl
  · rfl

end

end Sys2Proof.Machine

namespace Sys2Proof.Machine

/-! ### Commands that refuse (R183) -/

/-- R183: a command that takes the mailbox from BUSY to DONE with a code of 10h or above has done no more than refuse. -/
def State.FailsClean (s t : State) : Prop :=
  s.host.mailbox = .busy → t.host.mailbox = .done → 0x10 ≤ t.host.response[0].toNat → ∃ r, t = s.refuse r

section
variable {s t : State}

/-- An event that leaves the mailbox BUSY is no end of a command. -/
theorem State.FailsClean.of_not_done (h : s.host.mailbox = .busy → t.host.mailbox ≠ .done) : s.FailsClean t :=
  fun busy done _ => absurd done (h busy)

theorem State.FailsClean.of_mailbox (h : t.host.mailbox = s.host.mailbox) : s.FailsClean t :=
  .of_not_done fun busy done => by rw [h, busy] at done; cases done

theorem State.FailsClean.of_host (h : t.host = s.host) : s.FailsClean t := .of_mailbox (congrArg HostPort.mailbox h)

theorem State.FailsClean.refl : s.FailsClean s := .of_host rfl

theorem State.FailsClean.refuse {r : Result} : s.FailsClean (s.refuse r) := fun _ _ _ => ⟨r, rfl⟩

theorem getElem_responseBlock (r : Result) (code : Byte) (data : List Byte) : (responseBlock r code data)[0] = r.code := by
  rw [responseBlock, Vector.getElem_ofFn]
  rfl

/-- OK, ACCEPTED and ALREADY are codes below 10h (Table 10-B). -/
theorem State.FailsClean.of_response {r : Result} {code : Byte} {data : List Byte}
    (h : t.host.response = responseBlock r code data) (low : r.code.toNat < 0x10) : s.FailsClean t := fun _ _ high => by
  rw [h, getElem_responseBlock] at high
  exact absurd low (Nat.not_lt.mpr high)

theorem State.FailsClean.ok {u : State} {data : List Byte} : s.FailsClean (u.post .ok data) := .of_response rfl (by decide)

theorem State.FailsClean.already {u : State} {data : List Byte} : s.FailsClean (u.post .already data) :=
  .of_response rfl (by decide)

theorem State.FailsClean.postSnapshot {b : BindingNo} {clear : Bool} : s.FailsClean (s.postSnapshot b clear) := by
  simp only [State.postSnapshot]
  split
  · exact .of_response (r := .ok) rfl (by decide)
  · exact .ok

theorem takeEvent_failsClean {f : State → State} (h : takeEvent s f = .next t) (hf : s.FailsClean (f s)) : s.FailsClean t :=
  takeEvent_keeps (Q := s.FailsClean) h .refl hf

theorem commandEvent_failsClean {code : Byte} {f : State → State} (h : commandEvent s code f = .next t)
    (hf : s.FailsClean (f s)) : s.FailsClean t :=
  commandEvent_keeps (Q := s.FailsClean) h .refl hf

/-! #### The host port -/

theorem execStatusWindowRead_failsClean {address : BitVec 7} {length : Nat}
    (h : execStatusWindowRead address length s = .next t) : s.FailsClean t := by
  refine takeEvent_failsClean h ?_
  simp only
  split <;> exact .of_mailbox rfl

theorem execCommandWrite_failsClean {data : List Byte} (h : execCommandWrite data s = .next t) : s.FailsClean t := by
  refine takeEvent_failsClean h ?_
  split <;> exact .of_mailbox rfl

theorem execGo_failsClean {data : List Byte} (h : execGo data s = .next t) : s.FailsClean t := by
  refine takeEvent_failsClean h ?_
  split
  · exact .of_mailbox rfl
  · exact .of_not_done fun _ done => by cases done

theorem execUnknownCommand_failsClean (h : execUnknownCommand s = .next t) : s.FailsClean t := by
  refine takeEvent_failsClean h ?_
  split
  · exact .refuse
  · exact .refl

theorem execStatus_failsClean (h : execStatus s = .next t) : s.FailsClean t := by
  refine commandEvent_failsClean h ?_
  split
  · exact .refuse
  · simp only
    split <;> exact .of_response (r := .ok) rfl (by decide)

/-! #### Records and tags -/

theorem execReadRecord_failsClean (h : execReadRecord s = .next t) : s.FailsClean t := by
  refine commandEvent_failsClean h ?_
  split
  · exact .postSnapshot
  · exact .refuse

theorem execLookupKey_failsClean (h : execLookupKey s = .next t) : s.FailsClean t := by
  refine commandEvent_failsClean h ?_
  split
  · split
    · exact .postSnapshot
    · exact .refuse
  · exact .refuse

theorem execLookupTag_failsClean (h : execLookupTag s = .next t) : s.FailsClean t := by
  refine commandEvent_failsClean h ?_
  split
  · split
    · exact .postSnapshot
    all_goals exact .refuse
  · exact .refuse

theorem State.FailsClean.provisionWith {k : Key} {c : ClassNo} {pinned : Bool} {x : Option Tag} :
    s.FailsClean (s.provisionWith k c pinned x) := by
  unfold State.provisionWith
  split
  case h_4 => exact .ok
  all_goals exact .refuse

theorem execProvision_failsClean (h : execProvision s = .next t) : s.FailsClean t := by
  refine commandEvent_failsClean h ?_
  split
  · exact .provisionWith
  · exact .refuse

theorem execModify_failsClean (h : execModify s = .next t) : s.FailsClean t := by
  refine commandEvent_failsClean h ?_
  split
  · split
    · exact .refuse
    · exact .refuse
    · exact .ok
  · exact .refuse

theorem execRetire_failsClean (h : execRetire s = .next t) : s.FailsClean t := by
  refine commandEvent_failsClean h ?_
  split
  · exact .refuse
  · split
    · exact .refuse
    · exact .refuse
    · exact .already
    · exact .ok

theorem execReleaseTag_failsClean (h : execReleaseTag s = .next t) : s.FailsClean t := by
  refine commandEvent_failsClean h ?_
  split
  · exact .refuse
  · split
    · exact .ok
    all_goals exact .refuse

/-! #### Attention, settings, links and the session -/

theorem execNextAttention_failsClean (h : execNextAttention s = .next t) : s.FailsClean t := by
  refine commandEvent_failsClean h ?_
  split
  · exact .ok
  · split <;> exact .ok

theorem execAckAttention_failsClean (h : execAckAttention s = .next t) : s.FailsClean t := by
  refine commandEvent_failsClean h ?_
  split
  · split
    · exact .ok
    · exact .refuse
  · split
    · exact .ok
    · exact .refuse

theorem execSetClass_failsClean (h : execSetClass s = .next t) : s.FailsClean t := by
  refine commandEvent_failsClean h ?_
  split
  · exact .refuse
  · exact .ok

theorem execSetLink_failsClean (h : execSetLink s = .next t) : s.FailsClean t := by
  refine commandEvent_failsClean h ?_
  split
  · exact .ok
  · exact .refuse

theorem execReadLink_failsClean (h : execReadLink s = .next t) : s.FailsClean t := by
  refine commandEvent_failsClean h ?_
  split
  · simp only
    split
    · exact .of_response (r := .ok) rfl (by decide)
    · exact .ok
  · exact .refuse

theorem execSetTiming_failsClean (h : execSetTiming s = .next t) : s.FailsClean t := by
  refine commandEvent_failsClean h ?_
  split
  · exact .ok
  · exact .refuse

theorem execSetAttentionEnables_failsClean (h : execSetAttentionEnables s = .next t) : s.FailsClean t := by
  refine commandEvent_failsClean h ?_
  split
  · exact .ok
  · exact .refuse

theorem execTrunkOpen_failsClean (h : execTrunkOpen s = .next t) : s.FailsClean t := by
  refine commandEvent_failsClean h ?_
  split
  · exact .ok
  all_goals exact .refuse

theorem execTrunkClose_failsClean (h : execTrunkClose s = .next t) : s.FailsClean t := by
  refine commandEvent_failsClean h ?_
  split
  · exact .already
  all_goals exact .ok

/-! #### Sweeps and resets -/

theorem execSweep_failsClean (h : execSweep s = .next t) : s.FailsClean t := by
  refine commandEvent_failsClean h ?_
  split
  · exact .refuse
  · split
    · exact .refuse
    · exact .of_response (r := .accepted) rfl (by decide)

theorem execAbortSweep_failsClean (h : execAbortSweep s = .next t) : s.FailsClean t := by
  refine commandEvent_failsClean h ?_
  split
  · exact .ok
  · exact .already

theorem execRestart_failsClean (h : execRestart s = .next t) : s.FailsClean t :=
  commandEvent_failsClean h .ok

theorem execResetAssertion_failsClean (h : execResetAssertion s = .next t) : s.FailsClean t := by
  obtain rfl := Host.Outcome.next.inj h
  exact .of_mailbox rfl

theorem execPowerOnReset_failsClean (h : execPowerOnReset s = .next t) : s.FailsClean t := by
  obtain rfl := Host.Outcome.next.inj h
  exact .of_not_done fun _ done => by cases done

/-! #### Every command -/

/-- R183: no command that posts a code of 10h or above does more than refuse. -/
theorem exec_failsClean {c : Instr} (h : exec c s = .next t) : s.FailsClean t := by
  cases c with
  | openMarker => exact .of_host (execOpenMarker_host h)
  | cellMarker => exact .of_host (execCellMarker_host h)
  | frameClose => exact .of_host (execFrameClose_host h)
  | lineLock => exact .of_host (execLineLock_host h)
  | lockLoss => exact .of_host (execLockLoss_host h)
  | leaseExpiry => exact .of_host (execLeaseExpiry_host h)
  | holdOffExpiry => exact .of_host (execHoldOffExpiry_host h)
  | sendCompletion => exact .of_host (execSendCompletion_host h)
  | noticeEnd => exact .of_host (execNoticeEnd_host h)
  | lineUp => exact .of_host (execLineUp_host h)
  | lineDown => exact .of_host (execLineDown_host h)
  | credit => exact .of_host (execCredit_host h)
  | helloAck => exact .of_host (execHelloAck_host h)
  | ack => exact .of_host (execAck_host h)
  | nak => exact .of_host (execNak_host h)
  | resyncRequest => exact .of_host (execResyncRequest_host h)
  | helloTimerExpiry => exact .of_host (execHelloTimerExpiry_host h)
  | noticeTimerExpiry => exact .of_host (execNoticeTimerExpiry_host h)
  | sweepVisit => exact .of_host (execSweepVisit_host h)
  | timebaseTick => exact .of_host (execTimebaseTick_host h)
  | statusWindowRead => exact execStatusWindowRead_failsClean h
  | commandWrite => exact execCommandWrite_failsClean h
  | go data => exact execGo_failsClean (data := data) h
  | unknownCommand => exact execUnknownCommand_failsClean h
  | status => exact execStatus_failsClean h
  | readRecord => exact execReadRecord_failsClean h
  | lookupKey => exact execLookupKey_failsClean h
  | lookupTag => exact execLookupTag_failsClean h
  | provision => exact execProvision_failsClean h
  | modify => exact execModify_failsClean h
  | retire => exact execRetire_failsClean h
  | releaseTag => exact execReleaseTag_failsClean h
  | nextAttention => exact execNextAttention_failsClean h
  | ackAttention => exact execAckAttention_failsClean h
  | setClass => exact execSetClass_failsClean h
  | setLink => exact execSetLink_failsClean h
  | readLink => exact execReadLink_failsClean h
  | setTiming => exact execSetTiming_failsClean h
  | setAttentionEnables => exact execSetAttentionEnables_failsClean h
  | trunkOpen => exact execTrunkOpen_failsClean h
  | trunkClose => exact execTrunkClose_failsClean h
  | sweep => exact execSweep_failsClean h
  | abortSweep => exact execAbortSweep_failsClean h
  | restart => exact execRestart_failsClean h
  | resetAssertion => exact execResetAssertion_failsClean h
  | powerOnReset => exact execPowerOnReset_failsClean h
  | unrecognisedMarker | ignoredWrite => exact takeEvent_failsClean (f := id) h .refl
  | discardedReturnMessage => exact .of_host (returnEvent_host (f := id) h rfl)

/-- Table 11-F: the codes that name no command. -/
theorem knownCode_eq_false {x : Byte} (h : x.toNat = 0 ∨ 20 < x.toNat) : knownCode x = false :=
  decide_eq_false (by omega)

/-- R183: the command event of a code that names no command. -/
theorem execUnknownCommand_eq (awake : s.awake) (busy : s.host.mailbox = .busy) (code : s.op 0 = 0 ∨ 20 < s.op 0) :
    exec .unknownCommand s = .next (s.refuse .unknownCommand) := by
  show execUnknownCommand s = _
  rw [execUnknownCommand, takeEvent_awake awake, if_pos ⟨busy, knownCode_eq_false code⟩]

end

/-- Settles O40: a command that posts a code of 10h or above has refused, and a refusal writes the response alone. -/
theorem refusedCommandChangesNothing : Obligations.RefusedCommandChangesNothing := by
  refine ⟨fun c s t run busy done high => ?_, fun s awake busy code =>
    State.refusedWith_of (execUnknownCommand_eq awake busy code)⟩
  obtain ⟨r, rfl⟩ := exec_failsClean run busy done high
  have posted : (s.refuse r).host.response[0] = r.code := getElem_responseBlock ..
  rw [posted]
  exact ⟨State.answers_post rfl r (Nat.zero_le _), State.post_frame rfl r []⟩

end Sys2Proof.Machine

namespace Sys2Proof.Machine

set_option Elab.async false

/-! ### Events whose occasion does not hold (R180, R195, R197, log 5) -/

section
variable {s : State}

/-- R194: an event that would change nothing changes nothing, with RESET asserted or not. -/
theorem takeEvent_of_unchanged {f : State → State} (h : f s = s) : takeEvent s f = .next s := by
  rw [takeEvent, h, ite_self]

/-- R132: no return-path message is heard while the trunk line is DOWN (log 5). -/
theorem returnEvent_of_down (down : s.line = .down) (f : State → State) : returnEvent s f = .next s := by
  have notUp : s.line ≠ .up := by rw [down]; nofun
  exact takeEvent_of_unchanged (if_neg notUp)

end

/-- Settles O9: the inputs that are discarded or ignored have no effect of their own, a marker acts on an UP link alone, and a
return-path message on an UP line alone. -/
theorem inputsThatChangeNothing : Obligations.InputsThatChangeNothing := by
  refine fun s => ⟨fun l bytes => ?_, fun bytes => ?_, fun address data => ?_, fun l notUp => ⟨?_, ?_, ?_⟩, fun down => ?_⟩
  · exact takeEvent_of_unchanged (f := id) rfl
  · exact takeEvent_of_unchanged (ite_self s)
  · exact takeEvent_of_unchanged (f := id) rfl
  · exact fun format stream n => takeEvent_of_unchanged (if_neg notUp)
  · exact fun payload => takeEvent_of_unchanged (if_neg notUp)
  · exact fun declared crc => takeEvent_of_unchanged (if_neg notUp)
  · exact ⟨fun n => (returnEvent_of_down down _ : execCredit n s = _),
      fun n => (returnEvent_of_down down _ : execHelloAck n s = _), fun q => (returnEvent_of_down down _ : execAck q s = _),
      fun q r => (returnEvent_of_down down _ : execNak q r s = _), returnEvent_of_down down _⟩

end Sys2Proof.Machine

namespace Sys2Proof.Machine

set_option Elab.async false

/-! ### When an operand is in range (R198, Table 11-F) -/

section
variable {x : Byte} {n : Nat}

theorem exists_below : (∃ i, below (n + 1) x = some i) ↔ x.toNat ≤ n := by
  refine ⟨fun ⟨i, h⟩ => ?_, fun h => ⟨⟨x.toNat, Nat.lt_succ_of_le h⟩, below_of_toNat rfl⟩⟩
  by_contra above
  rw [below, dif_neg (by omega)] at h
  cases h

theorem exists_flagOperand : (∃ f, flagOperand x = some f) ↔ x.toNat ≤ 1 := by
  refine ⟨fun ⟨f, h⟩ => ?_, fun h => ?_⟩
  · unfold flagOperand at h
    split at h
    next zero => rw [zero]; decide
    next =>
      split at h
      next one => rw [one]; decide
      next => cases h
  · rcases Nat.le_one_iff_eq_zero_or_eq_one.mp h with zero | one
    · exact ⟨false, flagOperand_of_toNat zero⟩
    · exact ⟨true, flagOperand_of_toNat one⟩

theorem exists_tagOperand : (∃ t, tagOperand x = some t) ↔ 1 ≤ x.toNat ∧ x.toNat ≤ 31 := by
  refine ⟨fun ⟨t, h⟩ => ?_, fun ⟨low, high⟩ => ⟨⟨x.toNat - 1, by omega⟩, tagOperand_of_toNat (by simp; omega)⟩⟩
  unfold tagOperand at h
  split at h
  next => cases h
  next nonzero =>
    have := exists_below.mp ⟨t, h⟩
    bv_omega

theorem exists_fixedTagOperand : (∃ t, fixedTagOperand x = some t) ↔ x.toNat ≤ 31 := by
  unfold fixedTagOperand
  split
  next zero => simp [zero]
  next nonzero =>
    have positive : 1 ≤ x.toNat := by bv_omega
    simpa [positive] using exists_tagOperand (x := x)

theorem exists_within {lo hi : Nat} : (∃ v, within lo hi n = some v) ↔ lo ≤ n ∧ n ≤ hi := by simp [within]

theorem exists_recordMaskOperand : (∃ m, recordMaskOperand x = some m) ↔ x.toNat < 32 := by simp [recordMaskOperand]

theorem exists_partMaskOperand : (∃ m, partMaskOperand x = some m) ↔ x.toNat < 64 := by simp [partMaskOperand]

theorem exists_anyOr : (∃ o, anyOr (n + 1) x = some o) ↔ x.toNat ≤ n ∨ x.toNat = 255 := by
  unfold anyOr
  split
  next any => simp [any]
  next notAny =>
    have named : x.toNat ≠ 255 := by bv_omega
    simpa [named] using exists_below (n := n) (x := x)

theorem exists_actionOperand : (∃ a, actionOperand x = some a) ↔ 1 ≤ x.toNat ∧ x.toNat ≤ 3 := by
  constructor
  · rintro ⟨a, h⟩
    unfold actionOperand at h
    split_ifs at h with retire clear free
    · simp [retire]
    · simp [clear]
    · simp [free]
  · rintro ⟨low, high⟩
    have named : x.toNat = 1 ∨ x.toNat = 2 ∨ x.toNat = 3 := by omega
    rcases named with one | two | three
    · exact ⟨.retire, actionOperand_of_toNat one⟩
    · exact ⟨.clearCounters, actionOperand_of_toNat two⟩
    · exact ⟨.freeReports, actionOperand_of_toNat three⟩

/-- The bits above bit 0 of a byte. -/
theorem toNat_highBits_eq_zero : (x &&& 0xFE#8).toNat = 0 ↔ x.toNat ≤ 1 := by decide +revert

/-- Bit 0 of a byte. -/
theorem toNat_lowBit_eq_zero : (x &&& 0x01#8).toNat = 0 ↔ x.toNat % 2 = 0 := by decide +revert

theorem word16_eq_zero {hi lo : Byte} : word16 hi lo = 0#16 ↔ hi.toNat = 0 ∧ lo.toNat = 0 := by
  rw [← BitVec.toNat_inj, word16_toNat]
  simp

/-- R192: no state named is FREE or past RETIRED, and one is named, byte by byte. -/
theorem exists_stateSetOperand {hi lo : Byte} : (∃ m, stateSetOperand (word16 hi lo) = some m) ↔
    (hi.toNat ≠ 0 ∨ lo.toNat ≠ 0) ∧ lo.toNat % 2 = 0 ∧ hi.toNat ≤ 1 := by
  have masked : word16 hi lo &&& 0xFE01#16 = word16 (hi &&& 0xFE#8) (lo &&& 0x01#8) :=
    BitVec.and_append (x₁ := hi) (x₂ := 0xFE#8) (y₁ := lo) (y₂ := 0x01#8)
  have read : (∃ m, stateSetOperand (word16 hi lo) = some m) ↔ word16 hi lo ≠ 0#16 ∧ word16 hi lo &&& 0xFE01#16 = 0#16 := by
    simp [stateSetOperand]
  rw [read, masked, Ne, word16_eq_zero, word16_eq_zero, toNat_highBits_eq_zero, toNat_lowBit_eq_zero]
  omega

end

section
variable {s : State}

/-- R188: SET CLASS reads its operands when each is in range. -/
theorem State.exists_classOperands : (∃ p, s.classOperands = some p) ↔
    s.op 1 ≤ 3 ∧ (1 ≤ s.op 2 ∧ s.op 2 ≤ 15) ∧ (1 ≤ s.op 3 ∧ s.op 3 ≤ 15) ∧ (1 ≤ s.op 4 ∧ s.op 4 ≤ 63) ∧
      (10 ≤ s.op 5 * 256 + s.op 6 ∧ s.op 5 * 256 + s.op 6 ≤ 4095) ∧ s.op 7 ≤ 7 := by
  simp only [classOperands, Option.bind_eq_bind, Option.bind_eq_some_iff, word16_toNat]
  constructor
  · rintro ⟨_, c, h1, a, h2, f, h3, r, h4, l, h5, o, h7, -⟩
    exact ⟨exists_below.mp ⟨c, h1⟩, exists_within.mp ⟨a, h2⟩, exists_within.mp ⟨f, h3⟩, exists_within.mp ⟨r, h4⟩,
      exists_within.mp ⟨l, h5⟩, (exists_within.mp ⟨o, h7⟩).2⟩
  · rintro ⟨h1, h2, h3, h4, h5, h7⟩
    obtain ⟨c, h1⟩ := exists_below.mpr h1
    obtain ⟨a, h2⟩ := exists_within.mpr h2
    obtain ⟨f, h3⟩ := exists_within.mpr h3
    obtain ⟨r, h4⟩ := exists_within.mpr h4
    obtain ⟨l, h5⟩ := exists_within.mpr h5
    obtain ⟨o, h7⟩ := exists_within.mpr ⟨Nat.zero_le _, h7⟩
    exact ⟨_, c, h1, a, h2, f, h3, r, h4, l, h5, o, h7, rfl⟩

/-- R192: SWEEP reads its operands when each is in range. -/
theorem State.exists_sweepOperands : (∃ j, s.sweepOperands = some j) ↔
    (s.op 1 ≤ 7 ∨ s.op 1 = 255) ∧ (s.op 2 ≤ 3 ∨ s.op 2 = 255) ∧
      ((s.op 3 ≠ 0 ∨ s.op 4 ≠ 0) ∧ s.op 4 % 2 = 0 ∧ s.op 3 ≤ 1) ∧ s.op 5 ≤ 1 ∧ (1 ≤ s.op 6 ∧ s.op 6 ≤ 3) := by
  simp only [sweepOperands, Option.bind_eq_bind, Option.bind_eq_some_iff]
  constructor
  · rintro ⟨_, l, h1, c, h2, m, h3, p, h5, a, h6, -⟩
    exact ⟨exists_anyOr.mp ⟨l, h1⟩, exists_anyOr.mp ⟨c, h2⟩, exists_stateSetOperand.mp ⟨m, h3⟩,
      exists_flagOperand.mp ⟨p, h5⟩, exists_actionOperand.mp ⟨a, h6⟩⟩
  · rintro ⟨h1, h2, h3, h5, h6⟩
    obtain ⟨l, h1⟩ := exists_anyOr.mpr h1
    obtain ⟨c, h2⟩ := exists_anyOr.mpr h2
    obtain ⟨m, h3⟩ := exists_stateSetOperand.mpr h3
    obtain ⟨p, h5⟩ := exists_flagOperand.mpr h5
    obtain ⟨a, h6⟩ := exists_actionOperand.mpr h6
    exact ⟨_, l, h1, c, h2, m, h3, p, h5, a, h6, rfl⟩

end

/-! ### The range check of a command in hand (R183, R198) -/

/-- A command answered, with another result than RANGE. -/
def State.AnsweredInRange (t : State) : Prop := t.host.mailbox = .done ∧ t.host.response[0] ≠ 0x11#8

/-- What the range check makes of a command in hand: an answer other than RANGE, or the refusal RANGE. -/
inductive State.RangeChecked (s : State) (passes : Prop) : State → Prop
  | inside {t : State} (h : passes) (answered : t.AnsweredInRange) : s.RangeChecked passes t
  | outside (h : ¬passes) : s.RangeChecked passes (s.refuse .range)

/-- R183, R198: a command in hand refused with RANGE exactly when its operands do not pass. -/
def State.Judged (s : State) (c : Instr) (code : Byte) (passes : Prop) : Prop :=
  s.inHand code → (¬passes → s.refusedWith c 0x11#8) ∧
    (passes → ∃ t, exec c s = .next t ∧ t.AnsweredInRange)

section
variable {s : State}

/-- A command event of which the range check makes one of the two is judged by it. -/
theorem State.Judged.of {c : Instr} {code : Byte} {passes : Prop} {f : State → State}
    (event : exec c s = commandEvent s code f) (checked : s.RangeChecked passes (f s)) : s.Judged c code passes := by
  intro h
  have run : exec c s = .next (f s) := event.trans (commandEvent_inHand h f)
  generalize f s = t at run checked
  cases checked with
  | inside inRange answered => exact ⟨fun out => absurd inRange out, fun _ => ⟨t, run, answered⟩⟩
  | outside out => exact ⟨fun _ => State.refusedWith_of run, fun inRange => absurd inRange out⟩

/-- RANGE alone has code 11h (Table 10-B). -/
theorem Result.code_ne_range {r : Result} (h : r ≠ .range) : r.code ≠ 0x11#8 := by
  cases r with
  | range => exact absurd rfl h
  | _ => decide

theorem State.AnsweredInRange.of_response {t : State} {r : Result} {code : Byte} {data : List Byte}
    (done : t.host.mailbox = .done) (response : t.host.response = responseBlock r code data) (h : r ≠ .range) :
    t.AnsweredInRange :=
  ⟨done, by rw [response, getElem_responseBlock]; exact Result.code_ne_range h⟩

theorem State.AnsweredInRange.post {u : State} {r : Result} {data : List Byte} (h : r ≠ .range) :
    (u.post r data).AnsweredInRange := .of_response rfl rfl h

theorem State.AnsweredInRange.postSnapshot {b : BindingNo} {clear : Bool} : (s.postSnapshot b clear).AnsweredInRange := by
  cases clear with
  | false => exact .post (r := .ok) nofun
  | true => exact .of_response (r := .ok) rfl rfl nofun

/-- R198: an operand out of its range gives RANGE, and one in range is read. -/
theorem State.RangeChecked.operand {α : Type} {o : Option α} {t : State} {p q : Prop} (range : (∃ a, o = some a) ↔ p)
    (read : ∀ a, o = some a → s.RangeChecked q t) (unread : o = none → t = s.refuse .range) :
    s.RangeChecked (p ∧ q) t := by
  cases o with
  | none =>
    rw [unread rfl]
    exact .outside fun h => nomatch range.mpr h.1
  | some a =>
    have passed : p := range.mp ⟨a, rfl⟩
    rw [and_iff_right passed]
    exact read a rfl

theorem State.RangeChecked.lastOperand {α : Type} {o : Option α} {t : State} {p : Prop} (range : (∃ a, o = some a) ↔ p)
    (read : ∀ a, o = some a → t.AnsweredInRange) (unread : o = none → t = s.refuse .range) : s.RangeChecked p t := by
  rw [← and_true p]
  exact .operand range (fun a h => .inside trivial (read a h)) unread

theorem State.RangeChecked.congr {t : State} {p q : Prop} (same : p ↔ q) (h : s.RangeChecked p t) : s.RangeChecked q t := by
  rwa [← same]

theorem State.Judged.congr {c : Instr} {code : Byte} {p q : Prop} (same : p ↔ q) (h : s.Judged c code p) :
    s.Judged c code q := by rwa [← same]

/-! #### The host port, records and tags -/

theorem status_judged : s.Judged .status 0x01#8 (s.op 1 ≤ 1) := by
  refine .of (show execStatus s = _ from rfl) ?_
  refine .lastOperand (o := flagOperand (s.operand 1)) exists_flagOperand (fun clear h1 => ?_) (fun h1 => by rw [h1])
  rw [h1]
  cases clear with
  | false | true => exact .of_response (r := .ok) rfl rfl nofun

theorem readRecord_judged : s.Judged .readRecord 0x02#8 (s.op 1 ≤ 47 ∧ s.op 2 ≤ 1) := by
  refine .of (show execReadRecord s = _ from rfl) ?_
  refine .operand (o := below 48 (s.operand 1)) exists_below (fun b h1 => ?_) (fun h1 => by rw [h1])
  refine .lastOperand (o := flagOperand (s.operand 2)) exists_flagOperand (fun clear h2 => ?_) (fun h2 => by rw [h1, h2])
  rw [h1, h2]
  exact .postSnapshot

theorem lookupKey_judged : s.Judged .lookupKey 0x03#8 (s.op 1 ≤ 7 ∧ s.op 2 ≤ 15 ∧ s.op 3 ≤ 1) := by
  refine .of (show execLookupKey s = _ from rfl) ?_
  refine .operand (o := below 8 (s.operand 1)) exists_below (fun l h1 => ?_) (fun h1 => by rw [h1])
  refine .operand (o := below 16 (s.operand 2)) exists_below (fun n h2 => ?_) (fun h2 => by rw [h1, h2])
  refine .lastOperand (o := flagOperand (s.operand 3)) exists_flagOperand (fun clear h3 => ?_) (fun h3 => by rw [h1, h2, h3])
  rw [h1, h2, h3]
  dsimp only
  split
  · exact .postSnapshot
  · exact .post nofun

theorem lookupTag_judged : s.Judged .lookupTag 0x04#8 ((1 ≤ s.op 1 ∧ s.op 1 ≤ 31) ∧ s.op 2 ≤ 1) := by
  refine .of (show execLookupTag s = _ from rfl) ?_
  refine .operand (o := tagOperand (s.operand 1)) exists_tagOperand (fun x h1 => ?_) (fun h1 => by rw [h1])
  refine .lastOperand (o := flagOperand (s.operand 2)) exists_flagOperand (fun clear h2 => ?_) (fun h2 => by rw [h1, h2])
  rw [h1, h2]
  dsimp only
  split
  · exact .postSnapshot
  all_goals exact .post nofun

/-- R75: the refusals of a fixed tag are TAG_NOT_FREE and TAG_NOT_READY. -/
theorem State.takeOutRefusal_ne_range {fixed : Option Tag} {r : Result} (h : s.takeOutRefusal fixed = some r) :
    r ≠ .range := by
  rintro rfl
  unfold State.takeOutRefusal at h
  split at h
  · cases h
  · split at h
    · split at h <;> cases h
    all_goals cases h

theorem State.AnsweredInRange.provisionWith {k : Key} {c : ClassNo} {pinned : Bool} {fixed : Option Tag} :
    (s.provisionWith k c pinned fixed).AnsweredInRange := by
  unfold State.provisionWith
  split
  case h_3 refused => exact .post (takeOutRefusal_ne_range refused)
  all_goals exact .post nofun

theorem provision_judged :
    s.Judged .provision 0x05#8 (s.op 1 ≤ 7 ∧ s.op 2 ≤ 15 ∧ s.op 3 ≤ 3 ∧ s.op 4 ≤ 1 ∧ s.op 5 ≤ 31) := by
  refine .of (show execProvision s = _ from rfl) ?_
  refine .operand (o := below 8 (s.operand 1)) exists_below (fun l h1 => ?_) (fun h1 => by rw [h1])
  refine .operand (o := below 16 (s.operand 2)) exists_below (fun n h2 => ?_) (fun h2 => by rw [h1, h2])
  refine .operand (o := below 4 (s.operand 3)) exists_below (fun c h3 => ?_) (fun h3 => by rw [h1, h2, h3])
  refine .operand (o := flagOperand (s.operand 4)) exists_flagOperand (fun pinned h4 => ?_)
    (fun h4 => by rw [h1, h2, h3, h4])
  refine .lastOperand (o := fixedTagOperand (s.operand 5)) exists_fixedTagOperand (fun fixed h5 => ?_)
    (fun h5 => by rw [h1, h2, h3, h4, h5])
  rw [h1, h2, h3, h4, h5]
  exact .provisionWith

theorem modify_judged : s.Judged .modify 0x06#8 (s.op 1 ≤ 47 ∧ s.op 2 ≤ 3 ∧ s.op 3 ≤ 1) := by
  refine .of (show execModify s = _ from rfl) ?_
  refine .operand (o := below 48 (s.operand 1)) exists_below (fun b h1 => ?_) (fun h1 => by rw [h1])
  refine .operand (o := below 4 (s.operand 2)) exists_below (fun c h2 => ?_) (fun h2 => by rw [h1, h2])
  refine .lastOperand (o := flagOperand (s.operand 3)) exists_flagOperand (fun pinned h3 => ?_)
    (fun h3 => by rw [h1, h2, h3])
  rw [h1, h2, h3]
  dsimp only
  split
  all_goals exact .post nofun

theorem retire_judged : s.Judged .retire 0x07#8 (s.op 1 ≤ 47) := by
  refine .of (show execRetire s = _ from rfl) ?_
  refine .lastOperand (o := below 48 (s.operand 1)) exists_below (fun b h1 => ?_) (fun h1 => by rw [h1])
  rw [h1]
  dsimp only
  split
  all_goals exact .post nofun

theorem releaseTag_judged : s.Judged .releaseTag 0x08#8 (1 ≤ s.op 1 ∧ s.op 1 ≤ 31) := by
  refine .of (show execReleaseTag s = _ from rfl) ?_
  refine .lastOperand (o := tagOperand (s.operand 1)) exists_tagOperand (fun x h1 => ?_) (fun h1 => by rw [h1])
  rw [h1]
  dsimp only
  split
  all_goals exact .post nofun

/-! #### Attention -/

theorem nextAttention_judged : s.Judged .nextAttention 0x09#8 True := by
  refine .of (show execNextAttention s = _ from rfl) (.inside trivial ?_)
  split
  · exact .post nofun
  · split
    all_goals exact .post nofun

theorem ackAttention_judged :
    s.Judged .ackAttention 0x0A#8 (s.op 1 = 255 ∧ s.op 2 < 64 ∨ s.op 1 ≤ 47 ∧ s.op 2 < 32) := by
  refine .of (show execAckAttention s = _ from rfl) ?_
  split
  next part =>
    have target : s.op 1 = 255 := congrArg BitVec.toNat part
    refine .congr (p := s.op 2 < 64) (by omega) ?_
    refine .lastOperand (o := partMaskOperand (s.operand 2)) exists_partMaskOperand (fun mask h2 => ?_)
      (fun h2 => by rw [h2])
    rw [h2]
    exact .post nofun
  next record =>
    have target : s.op 1 ≠ 255 := fun named => record (BitVec.eq_of_toNat_eq named)
    refine .congr (p := s.op 1 ≤ 47 ∧ s.op 2 < 32) (by omega) ?_
    refine .operand (o := below 48 (s.operand 1)) exists_below (fun b h1 => ?_) (fun h1 => by rw [h1])
    refine .lastOperand (o := recordMaskOperand (s.operand 2)) exists_recordMaskOperand (fun mask h2 => ?_)
      (fun h2 => by rw [h1, h2])
    rw [h1, h2]
    exact .post nofun

theorem setAttentionEnables_judged : s.Judged .setAttentionEnables 0x0F#8 (s.op 1 < 32 ∧ s.op 2 < 64) := by
  refine .of (show execSetAttentionEnables s = _ from rfl) ?_
  refine .operand (o := recordMaskOperand (s.operand 1)) exists_recordMaskOperand (fun r h1 => ?_) (fun h1 => by rw [h1])
  refine .lastOperand (o := partMaskOperand (s.operand 2)) exists_partMaskOperand (fun p h2 => ?_) (fun h2 => by rw [h1, h2])
  rw [h1, h2]
  exact .post nofun

/-! #### Classes, links and timing -/

theorem setClass_judged : s.Judged .setClass 0x0B#8 (∃ p, s.classOperands = some p) := by
  refine .of (show execSetClass s = _ from rfl) ?_
  refine .lastOperand .rfl (fun p read => ?_) (fun unread => by rw [unread])
  rw [read]
  exact .post nofun

theorem setLink_judged : s.Judged .setLink 0x0C#8 (s.op 1 ≤ 7 ∧ s.op 2 ≤ 1 ∧ s.op 3 ≤ 3) := by
  refine .of (show execSetLink s = _ from rfl) ?_
  refine .operand (o := below 8 (s.operand 1)) exists_below (fun l h1 => ?_) (fun h1 => by rw [h1])
  refine .operand (o := flagOperand (s.operand 2)) exists_flagOperand (fun enable h2 => ?_) (fun h2 => by rw [h1, h2])
  refine .lastOperand (o := below 4 (s.operand 3)) exists_below (fun c h3 => ?_) (fun h3 => by rw [h1, h2, h3])
  rw [h1, h2, h3]
  exact .post nofun

theorem readLink_judged : s.Judged .readLink 0x0D#8 (s.op 1 ≤ 7 ∧ s.op 2 ≤ 1) := by
  refine .of (show execReadLink s = _ from rfl) ?_
  refine .operand (o := below 8 (s.operand 1)) exists_below (fun l h1 => ?_) (fun h1 => by rw [h1])
  refine .lastOperand (o := flagOperand (s.operand 2)) exists_flagOperand (fun clear h2 => ?_) (fun h2 => by rw [h1, h2])
  rw [h1, h2]
  cases clear with
  | false | true => exact .of_response (r := .ok) rfl rfl nofun

theorem setTiming_judged : s.Judged .setTiming 0x0E#8
    ((1 ≤ s.op 1 ∧ s.op 1 ≤ 255) ∧ (0 ≤ s.op 2 * 256 + s.op 3 ∧ s.op 2 * 256 + s.op 3 ≤ 1023) ∧
      1 ≤ s.op 4 ∧ s.op 4 ≤ 8) := by
  refine .of (show execSetTiming s = _ from rfl) ?_
  rw [word16_toNat]
  refine .operand (o := within 1 255 (s.operand 1).toNat) exists_within (fun timeout h1 => ?_) (fun h1 => by rw [h1])
  refine .operand (o := within 0 1023 ((s.operand 2).toNat * 256 + (s.operand 3).toNat)) exists_within (fun holdOff h2 => ?_)
    (fun h2 => by rw [h1, h2])
  refine .lastOperand (o := within 1 8 (s.operand 4).toNat) exists_within (fun threshold h4 => ?_)
    (fun h4 => by rw [h1, h2, h4])
  rw [h1, h2, h4]
  exact .post nofun

/-! #### The session, sweeps and RESTART -/

theorem trunkOpen_judged : s.Judged .trunkOpen 0x10#8 True := by
  refine .of (show execTrunkOpen s = _ from rfl) (.inside trivial ?_)
  split
  all_goals exact .post nofun

theorem trunkClose_judged : s.Judged .trunkClose 0x11#8 True := by
  refine .of (show execTrunkClose s = _ from rfl) (.inside trivial ?_)
  split
  all_goals exact .post nofun

theorem sweep_judged : s.Judged .sweep 0x12#8 (∃ j, s.sweepOperands = some j) := by
  refine .of (show execSweep s = _ from rfl) ?_
  refine .lastOperand .rfl (fun job read => ?_) (fun unread => by rw [unread])
  rw [read]
  dsimp only
  split
  all_goals exact .post nofun

theorem abortSweep_judged : s.Judged .abortSweep 0x13#8 True := by
  refine .of (show execAbortSweep s = _ from rfl) (.inside trivial ?_)
  split
  all_goals exact .post nofun

theorem restart_judged : s.Judged .restart 0x14#8 True :=
  .of (show execRestart s = _ from rfl) (.inside trivial (.post nofun))

end

/-- Settles O41: each operand is read exactly when it lies in its range, a command that reads all of its operands answers
another result than RANGE, and one that does not refuses with RANGE. -/
theorem operandRangesAreChecked : Obligations.OperandRangesAreChecked := fun s =>
  ⟨status_judged, readRecord_judged, lookupKey_judged, lookupTag_judged.congr and_assoc, provision_judged, modify_judged,
    retire_judged, releaseTag_judged, nextAttention_judged, ackAttention_judged,
    setClass_judged.congr (s.exists_classOperands.trans (by omega)), setLink_judged, readLink_judged,
    setTiming_judged.congr (by omega), setAttentionEnables_judged, trunkOpen_judged, trunkClose_judged,
    sweep_judged.congr (s.exists_sweepOperands.trans (by simp only [and_assoc])), abortSweep_judged, restart_judged⟩

end Sys2Proof.Machine

namespace Sys2Proof.Machine

/-! ### The waiting commands (log 1)

The commands that wait stand outside the part. No operation reads or writes them, so every event hands them on. -/

namespace State

section
variable {s : State} {b : BindingNo}

theorem CloseFrame.pending {t : State} (h : s.CloseFrame t) : t.pending = s.pending := by
  obtain ⟨_, _, _, _, _, _, _, rfl⟩ := h
  rfl

/-- Steps that each hand the waiting commands on do so one after the other. -/
theorem foldl_pending {α : Type} {f : State → α → State} (keeps : ∀ u a, (f u a).pending = u.pending) (l : List α)
    (s : State) : (l.foldl f s).pending = s.pending :=
  List.foldlRecOn (motive := fun u => u.pending = s.pending) l f rfl fun u h a _ => (keeps u a).trans h

@[simp] theorem raisePart_pending (r : PartReason) : (s.raisePart r).pending = s.pending := by rw [raisePart_eq]

@[simp] theorem oweNotice_pending : (s.oweNotice b).pending = s.pending := rfl

@[simp] theorem beginRetirement_pending (c : RetireCause) : (s.beginRetirement b c).pending = s.pending :=
  (s.closeFrame_beginRetirement b c).pending

@[simp] theorem takeClose_pending (c : FrameClose) : (s.takeClose c).pending = s.pending :=
  (s.closeFrame_takeClose c).pending

@[simp] theorem grantEvent_pending : s.grantEvent.pending = s.pending := by
  obtain ⟨_, _, _, granted⟩ := s.grantUpTo_frame s.tags.waitQueue.length
  rw [grantEvent, granted]

@[simp] theorem releaseTag_pending (x : Tag) : (s.releaseTag x).pending = s.pending := by
  obtain ⟨_, _, released⟩ := s.releaseTag_frame x
  rw [released]

@[simp] theorem completeRetirement_pending : (s.completeRetirement b).pending = s.pending := by
  obtain ⟨_, completed⟩ := s.completeRetirement_frame b
  rw [completed]

@[simp] theorem moveDrained_pending : (s.moveDrained b).pending = s.pending := by
  obtain ⟨_, _, _, moved⟩ := s.moveDrained_frame b
  rw [moved]

@[simp] theorem sessionLoss_pending (target : Session) : (s.sessionLoss target).pending = s.pending := by
  obtain ⟨_, _, _, _, lost, _⟩ := s.sessionLoss_frame target
  rw [lost]

@[simp] theorem enterResync_pending : s.enterResync.pending = s.pending := s.sessionLoss_pending .resync

/-- The end of an event: the grants of a release and the arbiter's choice. -/
theorem arbitrate_grantIfReleased_pending (before : State) :
    (s.grantIfReleased before).arbitrate.pending = s.pending :=
  (arbitrate_pending _).trans (s.closeFrame_grantIfReleased before).pending

/-! #### Feeder links -/

theorem takeCell_pending (l : LinkNo) (f : OpenFrame) (payload : List Byte) :
    (s.takeCell l f payload).pending = s.pending := by
  simp only [takeCell]
  split
  · rfl
  · split
    · unfold reserveCell
      split
      · rfl
      · exact raisePart_pending _
    · rfl

theorem enableLink_pending (l : LinkNo) : (s.enableLink l).pending = s.pending := by
  unfold enableLink
  split
  · exact raisePart_pending _
  · rfl

theorem abandonFrame_pending (l : LinkNo) : (s.abandonFrame l).pending = s.pending := by
  unfold abandonFrame
  split <;> rfl

theorem switchOff_pending (l : LinkNo) : (s.switchOff l).pending = s.pending := by
  unfold switchOff
  split
  · rfl
  · exact raisePart_pending _

theorem disableLink_pending (l : LinkNo) : (s.disableLink l).pending = s.pending :=
  (foldl_pending (fun _ _ => beginRetirement_pending _) ..).trans ((switchOff_pending l).trans (abandonFrame_pending l))

theorem disabledByHost_pending (l : LinkNo) (c : ClassNo) : (s.disabledByHost l c).pending = s.pending :=
  (arbitrate_grantIfReleased_pending s).trans (disableLink_pending (s := s.withDefaultClass l c) l)

/-! #### Timers -/

theorem lapse_pending : (s.lapse b).pending = s.pending := by
  simp only [lapse, releaseTagOf, goFree, updateRecord_pending]
  split
  · exact releaseTag_pending _
  · rfl

theorem enterSilent_pending : (s.enterSilent b).pending = s.pending := (closeFrame_raiseRecord ..).pending

theorem expireLease_pending : (s.expireLease b).pending = s.pending := by
  simp only [expireLease]
  split
  case h_1 =>
    split
    · exact lapse_pending
    · rfl
  case h_2 =>
    split
    · rfl
    · exact lapse_pending
  case h_3 | h_4 =>
    split
    · exact enterSilent_pending
    · exact beginRetirement_pending .lease
  all_goals rfl

theorem exhaustUnbind_pending (e : WindowEntry) : (s.exhaustUnbind e).pending = s.pending := by
  simp only [exhaustUnbind]
  split <;> simp [strandTag, removeEntry]

theorem timeoutEntry_pending (e : WindowEntry) : (s.timeoutEntry e).pending = s.pending := by
  unfold timeoutEntry
  split
  · simp only [makeDue]
    split <;> rfl
  · unfold exhaust
    split
    · exact enterResync_pending
    · exact exhaustUnbind_pending e

/-! #### The trunk and its replies -/

theorem completeSend_pending (d : Descriptor) : (s.completeSend d).pending = s.pending := by
  simp only [completeSend, completeInFlight]
  split
  · exact moveDrained_pending
  · rfl

theorem startTimer_pending (i : TxItem) : (s.startTimer i).pending = s.pending := by
  unfold startTimer
  split
  · rfl
  · split <;> rfl
  · rfl

theorem dropDescriptor_pending (d : Descriptor) : (s.dropDescriptor d).pending = s.pending := by
  simp only [dropDescriptor, dropFromRecord]
  split <;> rfl

theorem cutOff_pending : s.cutOff.pending = s.pending := by
  simp only [cutOff]
  split
  · split
    · exact dropDescriptor_pending _
    · rfl
  · rfl

theorem sessionLineDown_pending : s.sessionLineDown.pending = s.pending := by
  unfold sessionLineDown
  split
  · exact enterResync_pending
  all_goals rfl

theorem openSession_pending : s.openSession.pending = s.pending := by
  simp only [openSession, raisePart_pending]
  rw [(closeFrame_grantIfReleased ..).pending, foldl_pending fun _ _ => oweNotice_pending,
    foldl_pending fun _ _ => completeRetirement_pending, foldl_pending fun _ => releaseTag_pending]

theorem acknowledge_pending (e : WindowEntry) : (s.acknowledge e).pending = s.pending := by
  simp only [acknowledge]
  split
  · simp [removeEntry]
  · split
    · exact (closeFrame_enterLive ..).pending
    all_goals rfl

theorem refuseBind_pending (e : WindowEntry) : (s.refuseBind e).pending = s.pending := by
  simp only [refuseBind]
  split
  case h_1 | h_3 => simp [removeEntry]
  all_goals rfl

theorem nakEntry_pending (e : WindowEntry) (r : NakReason) : (s.nakEntry e r).pending = s.pending := by
  unfold nakEntry
  split
  · exact refuseBind_pending e
  · exact acknowledge_pending e
  all_goals exact timeoutEntry_pending e

theorem lateReply_pending (confirms : Bool) (q : Byte) : (s.lateReply confirms q).pending = s.pending := by
  unfold lateReply
  split
  · exact releaseTag_pending _
  · rfl

/-! #### Sweeps -/

theorem sweepAct_pending (a : SweepAction) : (s.sweepAct b a).pending = s.pending := by
  unfold sweepAct
  split
  · exact beginRetirement_pending .sweep
  · rfl
  · split <;> rfl

theorem sweepTest_pending (j : SweepJob) : (s.sweepTest j b).pending = s.pending := by
  simp only [sweepTest]
  split
  · exact sweepAct_pending _
  · rfl

theorem sweepAdvance_pending : s.sweepAdvance.pending = s.pending := by
  simp only [sweepAdvance]
  split
  · exact raisePart_pending _
  · rfl

/-! #### Host commands -/

theorem post_pending (r : Result) (data : List Byte) : (s.post r data).pending = s.pending := rfl

theorem postSnapshot_pending (clear : Bool) : (s.postSnapshot b clear).pending = s.pending := by
  simp only [postSnapshot]
  split <;> rfl

theorem provisionWith_pending (k : Key) (c : ClassNo) (pinned : Bool) (x : Option Tag) :
    (s.provisionWith k c pinned x).pending = s.pending := by
  unfold provisionWith
  split
  case h_4 => cases x <;> rfl
  all_goals rfl

theorem ackRecord_pending (mask : BitVec 5) : (s.ackRecord b mask).pending = s.pending := by
  unfold ackRecord
  split <;> rfl

end

end State

/-! ### Every command completes

Section 0-2: an event is taken whole. Its command answers a next state, in which the same commands wait. -/

/-- An outcome that is a next state, with the waiting commands handed on. -/
def State.Completes (s : State) (o : Host.Outcome State Fault Refusal) : Prop := ∃ t, o = .next t ∧ t.pending = s.pending

section
variable {s : State} {f : State → State}

theorem takeEvent_completes (h : (f s).pending = s.pending) : s.Completes (takeEvent s f) := by
  refine ⟨_, rfl, ?_⟩
  split
  · rfl
  · exact h

theorem returnEvent_completes (h : (f s).pending = s.pending) : s.Completes (returnEvent s f) := by
  refine takeEvent_completes ?_
  split
  · exact h
  · rfl

theorem commandEvent_completes {code : Byte} (h : (f s).pending = s.pending) : s.Completes (commandEvent s code f) := by
  refine takeEvent_completes ?_
  split
  · exact h
  · rfl

end

section
variable {s : State} {l : LinkNo}

/-! #### The feeder family -/

theorem execOpenMarker_completes (format : Fin 16) (stream : StreamNo) (n : Byte) :
    s.Completes (execOpenMarker l format stream n s) := by
  refine takeEvent_completes ?_
  split
  · split
    · rfl
    · exact (State.arbitrate_pending _).trans (State.takeClose_pending _)
  · rfl

theorem execCellMarker_completes (payload : List Byte) : s.Completes (execCellMarker l payload s) := by
  refine takeEvent_completes ?_
  split
  · split
    · rfl
    · exact State.takeCell_pending ..
  · rfl

theorem execFrameClose_completes (declared : Byte) (crc : BitVec 16) :
    s.Completes (execFrameClose l declared crc s) := by
  refine takeEvent_completes ?_
  split
  · split
    · rfl
    · exact (State.arbitrate_pending _).trans (State.takeClose_pending _)
  · rfl

theorem execLineLock_completes : s.Completes (execLineLock l s) := by
  refine takeEvent_completes ?_
  split
  · exact State.raisePart_pending _
  · rfl

theorem execLockLoss_completes : s.Completes (execLockLoss l s) := by
  refine takeEvent_completes ?_
  split
  · split
    · exact State.raisePart_pending _
    next f _ =>
      have lost : ((s.truncateFrame l f).loseLock l).pending = s.pending :=
        (State.raisePart_pending _).trans (State.takeClose_pending _)
      exact (State.arbitrate_pending _).trans lost
  · rfl

/-! #### Timers -/

theorem execTimebaseTick_completes : s.Completes (execTimebaseTick s) := by
  refine takeEvent_completes ?_
  rw [s.tick_eq]
  rfl

theorem execLeaseExpiry_completes (b : BindingNo) : s.Completes (execLeaseExpiry b s) := by
  refine takeEvent_completes ?_
  split
  · exact (State.arbitrate_grantIfReleased_pending _).trans State.expireLease_pending
  · rfl

theorem execHoldOffExpiry_completes : s.Completes (execHoldOffExpiry s) :=
  takeEvent_completes ((State.arbitrate_pending _).trans State.grantEvent_pending)

theorem execHelloTimerExpiry_completes : s.Completes (execHelloTimerExpiry s) := by
  refine takeEvent_completes ?_
  split
  · split
    · refine (State.arbitrate_pending _).trans ?_
      split
      · rfl
      · exact State.raisePart_pending _
    · rfl
  · rfl

theorem execNoticeTimerExpiry_completes (q : Byte) : s.Completes (execNoticeTimerExpiry q s) := by
  refine takeEvent_completes ?_
  split
  · split
    · exact (State.arbitrate_pending _).trans (State.timeoutEntry_pending _)
    · rfl
  · rfl

/-! #### The trunk and its replies -/

theorem execSendCompletion_completes : s.Completes (execSendCompletion s) := by
  refine takeEvent_completes ?_
  split
  next d _ =>
    have completed : ((s.completeSend d).grantIfReleased s).pending = s.pending :=
      (State.closeFrame_grantIfReleased ..).pending.trans (State.completeSend_pending d)
    exact (State.arbitrate_pending _).trans completed
  · rfl

theorem execNoticeEnd_completes : s.Completes (execNoticeEnd s) := by
  refine takeEvent_completes ?_
  split
  case h_1 | h_2 => exact (State.arbitrate_pending _).trans (State.startTimer_pending _)
  all_goals rfl

theorem execLineUp_completes : s.Completes (execLineUp s) := by
  refine takeEvent_completes ?_
  split
  · exact State.arbitrate_pending _
  · rfl

theorem execLineDown_completes : s.Completes (execLineDown s) := by
  have down : ({ s.cutOff with line := .down }.sessionLineDown).pending = s.pending :=
    State.sessionLineDown_pending.trans s.cutOff_pending
  refine takeEvent_completes ?_
  split
  · dsimp only
    split
    · exact State.moveDrained_pending.trans down
    · exact down
  · rfl

theorem execCredit_completes (increment : BitVec 16) : s.Completes (execCredit increment s) := by
  refine returnEvent_completes ?_
  split
  · exact State.arbitrate_pending _
  · rfl

theorem execHelloAck_completes (number : Byte) : s.Completes (execHelloAck number s) := by
  refine returnEvent_completes ?_
  split
  · exact (State.arbitrate_pending _).trans State.openSession_pending
  · rfl

theorem execAck_completes (q : Byte) : s.Completes (execAck q s) := by
  refine returnEvent_completes ?_
  split
  · exact (State.arbitrate_grantIfReleased_pending _).trans (State.acknowledge_pending _)
  · exact (State.arbitrate_grantIfReleased_pending _).trans (State.lateReply_pending ..)

theorem execNak_completes (q : Byte) (r : NakReason) : s.Completes (execNak q r s) := by
  refine returnEvent_completes ?_
  split
  · exact (State.arbitrate_grantIfReleased_pending _).trans (State.nakEntry_pending ..)
  · exact (State.arbitrate_grantIfReleased_pending _).trans (State.lateReply_pending ..)

theorem execResyncRequest_completes : s.Completes (execResyncRequest s) := by
  refine returnEvent_completes ?_
  split
  · exact (State.arbitrate_pending _).trans State.enterResync_pending
  · rfl

/-! #### The host port and sweeps -/

theorem execStatusWindowRead_completes (address : BitVec 7) (length : Nat) :
    s.Completes (execStatusWindowRead address length s) := by
  refine takeEvent_completes ?_
  dsimp only
  split <;> rfl

theorem execCommandWrite_completes (data : List Byte) : s.Completes (execCommandWrite data s) := by
  refine takeEvent_completes ?_
  split <;> rfl

theorem execGo_completes (data : List Byte) : s.Completes (execGo data s) := by
  refine takeEvent_completes ?_
  split <;> rfl

theorem execUnknownCommand_completes : s.Completes (execUnknownCommand s) := by
  refine takeEvent_completes ?_
  split <;> rfl

theorem execSweepVisit_completes : s.Completes (execSweepVisit s) := by
  refine takeEvent_completes ?_
  split
  · split
    · split
      · exact (State.arbitrate_grantIfReleased_pending _).trans
          (State.sweepAdvance_pending.trans (State.sweepTest_pending _))
      · rfl
    · rfl
  · rfl

/-! #### Host commands

A posted response and a refusal write the host port alone, so what remains is the effect before the response. -/

theorem execStatus_completes : s.Completes (execStatus s) := by
  refine commandEvent_completes ?_
  split
  · rfl
  · dsimp only
    split <;> rfl

theorem execReadRecord_completes : s.Completes (execReadRecord s) := by
  refine commandEvent_completes ?_
  split
  · exact State.postSnapshot_pending _
  · rfl

theorem execLookupKey_completes : s.Completes (execLookupKey s) := by
  refine commandEvent_completes ?_
  split
  · split
    · exact State.postSnapshot_pending _
    · rfl
  · rfl

theorem execLookupTag_completes : s.Completes (execLookupTag s) := by
  refine commandEvent_completes ?_
  split
  · split
    · exact State.postSnapshot_pending _
    all_goals rfl
  · rfl

theorem execProvision_completes : s.Completes (execProvision s) := by
  refine commandEvent_completes ?_
  split
  · exact State.provisionWith_pending ..
  · rfl

theorem execModify_completes : s.Completes (execModify s) := by
  refine commandEvent_completes ?_
  split
  · split <;> rfl
  · rfl

theorem execRetire_completes : s.Completes (execRetire s) := by
  refine commandEvent_completes ?_
  split
  · rfl
  · split
    case h_4 => exact (State.arbitrate_grantIfReleased_pending _).trans (State.beginRetirement_pending .host)
    all_goals rfl

theorem execReleaseTag_completes : s.Completes (execReleaseTag s) := by
  refine commandEvent_completes ?_
  split
  · rfl
  · split
    · exact (State.arbitrate_grantIfReleased_pending _).trans (State.releaseTag_pending _)
    all_goals rfl

theorem execNextAttention_completes : s.Completes (execNextAttention s) := by
  refine commandEvent_completes ?_
  split
  · rfl
  · split <;> rfl

theorem execAckAttention_completes : s.Completes (execAckAttention s) := by
  refine commandEvent_completes ?_
  split
  · split <;> rfl
  · split
    · exact State.ackRecord_pending _
    · rfl

theorem execSetClass_completes : s.Completes (execSetClass s) := by
  refine commandEvent_completes ?_
  split <;> rfl

theorem execSetLink_completes : s.Completes (execSetLink s) := by
  refine commandEvent_completes ?_
  split
  next l enable c _ _ _ =>
    refine (State.post_pending ..).trans ?_
    split
    · exact State.enableLink_pending (s := s.withDefaultClass l c) l
    · exact State.disabledByHost_pending l c
  · rfl

theorem execReadLink_completes : s.Completes (execReadLink s) := by
  refine commandEvent_completes ?_
  split
  · dsimp only
    split <;> rfl
  · rfl

theorem execSetTiming_completes : s.Completes (execSetTiming s) := by
  refine commandEvent_completes ?_
  split
  · exact (State.arbitrate_pending _).trans State.grantEvent_pending
  · rfl

theorem execSetAttentionEnables_completes : s.Completes (execSetAttentionEnables s) := by
  refine commandEvent_completes ?_
  split <;> rfl

theorem execTrunkOpen_completes : s.Completes (execTrunkOpen s) := by
  refine commandEvent_completes ?_
  split
  · exact (State.arbitrate_pending _).trans (State.raisePart_pending _)
  all_goals rfl

theorem execTrunkClose_completes : s.Completes (execTrunkClose s) := by
  refine commandEvent_completes ?_
  split
  case h_1 => rfl
  case h_2 => exact State.raisePart_pending _
  all_goals exact (State.arbitrate_pending _).trans (State.sessionLoss_pending .closed)

theorem execSweep_completes : s.Completes (execSweep s) := by
  refine commandEvent_completes ?_
  split
  · rfl
  · split <;> rfl

theorem execAbortSweep_completes : s.Completes (execAbortSweep s) := by
  refine commandEvent_completes ?_
  split
  · exact State.raisePart_pending _
  · rfl

theorem execRestart_completes : s.Completes (execRestart s) := by
  refine commandEvent_completes ?_
  rfl

/-- Every command completes. -/
theorem exec_completes (c : Instr) (s : State) : s.Completes (exec c s) := by
  cases c with
  | openMarker l format stream n => exact execOpenMarker_completes format stream n
  | cellMarker l payload => exact execCellMarker_completes payload
  | frameClose l declared crc => exact execFrameClose_completes declared crc
  | lineLock l => exact execLineLock_completes
  | lockLoss l => exact execLockLoss_completes
  | leaseExpiry b => exact execLeaseExpiry_completes b
  | holdOffExpiry => exact execHoldOffExpiry_completes
  | sendCompletion => exact execSendCompletion_completes
  | noticeEnd => exact execNoticeEnd_completes
  | lineUp => exact execLineUp_completes
  | lineDown => exact execLineDown_completes
  | credit increment => exact execCredit_completes increment
  | helloAck number => exact execHelloAck_completes number
  | ack q => exact execAck_completes q
  | nak q r => exact execNak_completes q r
  | resyncRequest => exact execResyncRequest_completes
  | helloTimerExpiry => exact execHelloTimerExpiry_completes
  | noticeTimerExpiry q => exact execNoticeTimerExpiry_completes q
  | sweepVisit => exact execSweepVisit_completes
  | statusWindowRead address length => exact execStatusWindowRead_completes address length
  | commandWrite data => exact execCommandWrite_completes data
  | go data => exact execGo_completes data
  | unknownCommand => exact execUnknownCommand_completes
  | status => exact execStatus_completes
  | readRecord => exact execReadRecord_completes
  | lookupKey => exact execLookupKey_completes
  | lookupTag => exact execLookupTag_completes
  | provision => exact execProvision_completes
  | modify => exact execModify_completes
  | retire => exact execRetire_completes
  | releaseTag => exact execReleaseTag_completes
  | nextAttention => exact execNextAttention_completes
  | ackAttention => exact execAckAttention_completes
  | setClass => exact execSetClass_completes
  | setLink => exact execSetLink_completes
  | readLink => exact execReadLink_completes
  | setTiming => exact execSetTiming_completes
  | setAttentionEnables => exact execSetAttentionEnables_completes
  | trunkOpen => exact execTrunkOpen_completes
  | trunkClose => exact execTrunkClose_completes
  | sweep => exact execSweep_completes
  | abortSweep => exact execAbortSweep_completes
  | restart => exact execRestart_completes
  | resetAssertion | powerOnReset => exact ⟨_, rfl, rfl⟩
  | timebaseTick => exact execTimebaseTick_completes
  | unrecognisedMarker | ignoredWrite => exact takeEvent_completes (f := id) rfl
  | discardedReturnMessage => exact returnEvent_completes (f := id) rfl

end

/-- A step with commands waiting runs the front one with the queue's rest. -/
theorem step_cons {s : State} {c : Instr} {rest : List Instr} (waits : s.pending = c :: rest) :
    step s = exec c { s with pending := rest } := by
  rw [step, waits]

/-- A step with no command waiting idles. -/
theorem step_nil {s : State} (empty : s.pending = []) : step s = .next s := by
  rw [step, empty]

/-- Settles O1: the step runs the front command with the queue's rest, and every command completes. -/
theorem stepTakesFront : Obligations.StepTakesFront := by
  refine ⟨fun c rest s waits => ?_, fun s empty => step_nil empty⟩
  obtain ⟨t, run, kept⟩ := exec_completes c { s with pending := rest }
  exact ⟨step_cons waits, t, (step_cons waits).trans run, kept⟩

end Sys2Proof.Machine
